-- ==== Sys2Proof/Word.lean ====
section
/-! DEFINITION. The word types of the engine (bytes, phase words, the 48-bit engine time), the index
types of its named things, and `Bank`, a fixed number of like things held as a list. -/

namespace Sys2Proof

/-- One character of the serial link. -/
abbrev Byte := BitVec 8

/-- A 32-bit phase word: accumulator, increment, offset (R43). -/
abbrev Phase := BitVec 32

/-- Engine time, a 48-bit count of microseconds (R131). -/
abbrev Time := BitVec 48

/-- A logical channel, in the order VA, VB, VC, VN, IA, IB, IC, JA, JB, JC (R3, R191). -/
abbrev Channel := Fin 10

/-- An outlet, in the order OV1 to OV4, OC1 to OC6 (R191). -/
abbrev Outlet := Fin 10

/-- A current outlet OC1 to OC6. -/
abbrev CurrentOutlet := Fin 6

/-- A state index S0 to S23. -/
abbrev StateIdx := Fin 24

/-- A trigger entry T0 to T31. -/
abbrev TrigIdx := Fin 32

/-- A binary input: index 0 is BI1. -/
abbrev InputId := Fin 10

/-- A binary output: index 0 is BO1. -/
abbrev BoutId := Fin 8

/-- A measurement timer: index 0 is M1. -/
abbrev TimerId := Fin 8

/-- A breaker: index 0 is BK1. -/
abbrev BreakerId := Fin 2

/-- A curve: index 0 is C1. -/
abbrev CurveId := Fin 4

/-- A grade record: index 0 is G1. -/
abbrev GradeId := Fin 8

/-- A fixed number `n` of like things. The length is carried with the list, so every index of
`Fin n` names one. -/
structure Bank (α : Type) (n : Nat) where
  items : List α
  size : items.length = n
deriving DecidableEq, Repr

namespace Bank

variable {α β : Type} {n : Nat}

/-- `n` times the same thing. -/
def fill (n : Nat) (a : α) : Bank α n := ⟨List.replicate n a, List.length_replicate⟩

/-- The thing at index `i`. -/
def get (b : Bank α n) (i : Fin n) : α := b.items[i.val]'(by rw [b.size]; exact i.isLt)

/-- The bank with index `i` replaced. -/
def set (b : Bank α n) (i : Fin n) (a : α) : Bank α n :=
  ⟨b.items.set i.val a, by rw [List.length_set]; exact b.size⟩

/-- The bank with index `i` changed by `f`. -/
def modify (b : Bank α n) (i : Fin n) (f : α → α) : Bank α n := b.set i (f (b.get i))

/-- Every member changed by `f`. -/
def map (f : α → β) (b : Bank α n) : Bank β n :=
  ⟨b.items.map f, by rw [List.length_map]; exact b.size⟩

/-- The bank whose member at `i` is `f i`. -/
def ofFn (f : Fin n → α) : Bank α n := ⟨(List.finRange n).map f, by simp⟩

/-- Every member changed by a function of its index. -/
def mapIdx (f : Fin n → α → β) (b : Bank α n) : Bank β n := ofFn fun i => f i (b.get i)

end Bank

end Sys2Proof
end

