-- ==== Sys2Proof/Syntax.lean ====
section
/-! DEFINITION. The commands of the block: one constructor per row of spec/opcode_table.json.
A request carries the engine time at which its frame reaches the link, its TAG and its body bytes,
laid out as R190 and R191 give. An event whose instant the state determines carries no time. -/

namespace Sys2Proof

/-- The four-level CFG strap (R172). -/
inductive Strap where
  | level0 | levelR | levelF | level1
deriving DecidableEq, Repr

/-- The condition of one input's terminals (R69, R70): the magnitude of the terminal level in whole
volts, and whether the contact across the terminals is closed. -/
structure Terminal where
  volts : Nat
  closed : Bool
deriving DecidableEq, Repr

/-- What the engine reads from its pins when it starts (R151, R172): the strap, the interlock loop
and the ten input terminals. -/
structure Pins where
  strap : Strap
  interlockOpen : Bool
  terms : Bank Terminal 10
deriving DecidableEq, Repr

/-- The commands of the block, one constructor per row of the opcode table. `t` is the engine time
of the command, `sched` and the Boolean orders say which of several pieces of work of one instant
is taken first where the manual lets either be (log 8). -/
inductive Instr where
  /-- GINF, R184. -/
  | ginf (t : Time) (tag : Byte) (body : List Byte)
  /-- GSTA, R185. -/
  | gsta (t : Time) (tag : Byte) (body : List Byte)
  /-- ERST, R186. -/
  | erst (t : Time) (tag : Byte) (body : List Byte)
  /-- NMSK, R182. -/
  | nmsk (t : Time) (tag : Byte) (body : List Byte)
  /-- NACK, R183. -/
  | nack (t : Time) (tag : Byte) (body : List Byte)
  /-- RCAL, R188. -/
  | rcal (t : Time) (tag : Byte) (body : List Byte)
  /-- WCAL, R189. -/
  | wcal (t : Time) (tag : Byte) (body : List Byte)
  /-- LSTA, R10. -/
  | lsta (t : Time) (tag : Byte) (body : List Byte)
  /-- CLRS, R11. -/
  | clrs (t : Time) (tag : Byte) (body : List Byte)
  /-- CMIT, R12. -/
  | cmit (t : Time) (tag : Byte) (body : List Byte)
  /-- LTRG, R85. -/
  | ltrg (t : Time) (tag : Byte) (body : List Byte)
  /-- CTMR, R101. -/
  | ctmr (t : Time) (tag : Byte) (body : List Byte)
  /-- CBRK, R115. -/
  | cbrk (t : Time) (tag : Byte) (body : List Byte)
  /-- LCRV, R163. -/
  | lcrv (t : Time) (tag : Byte) (body : List Byte)
  /-- LGRD, R164. -/
  | lgrd (t : Time) (tag : Byte) (body : List Byte)
  /-- SMAP, R64. -/
  | smap (t : Time) (tag : Byte) (body : List Byte)
  /-- CINP, R68. -/
  | cinp (t : Time) (tag : Byte) (body : List Byte)
  /-- LRNT, R78. -/
  | lrnt (t : Time) (tag : Byte) (body : List Byte)
  /-- GINP, R83. -/
  | ginp (t : Time) (tag : Byte) (body : List Byte)
  /-- ARM, R19. -/
  | arm (t : Time) (tag : Byte) (body : List Byte)
  /-- DARM, R39. -/
  | darm (t : Time) (tag : Byte) (body : List Byte)
  /-- STOP, R40. -/
  | stop (t : Time) (tag : Byte) (body : List Byte)
  /-- ABRT, R41. -/
  | abrt (t : Time) (tag : Byte) (body : List Byte)
  /-- LSTR, R168. -/
  | lstr (t : Time) (tag : Byte) (body : List Byte)
  /-- RRPT, R169. -/
  | rrpt (t : Time) (tag : Byte) (body : List Byte)
  /-- RELR, R171. -/
  | relr (t : Time) (tag : Byte) (body : List Byte)
  /-- UNKNOWN_KIND_REQUEST, R178: a request whose KIND names no message. -/
  | unknownKindRequest (t : Time) (tag : Byte) (kind : Byte) (body : List Byte)
  /-- POWER_ON, R172. -/
  | powerOn (pins : Pins)
  /-- RSTN_ASSERT, R38. -/
  | rstnAssert (t : Time)
  /-- RSTN_RELEASE, R172. -/
  | rstnRelease (pins : Pins)
  /-- ENGINE_RESET, R186: the last character of the ERST reply has been sent. -/
  | engineReset (t : Time)
  /-- RX_CHARACTER, R173: a character taken from RX; `stopBit` is false for a character error. -/
  | rxCharacter (t : Time) (ch : Byte) (stopBit : Bool)
  /-- FRAME_SENT, R177; with `serveFirst` the waiting request is executed before the next frame's
  transmission begins. -/
  | frameSent (t : Time) (serveFirst : Bool)
  /-- WCAL_WRITE_COMPLETE, R189. -/
  | wcalWriteComplete (t : Time)
  /-- SAMPLE_TICK, R50. -/
  | sampleTick
  /-- SHOT_START, R22. -/
  | shotStart
  /-- DURATION_EXPIRY, R24. -/
  | durationExpiry
  /-- RAMP_STEP, R30. -/
  | rampStep
  /-- TRANSITION_ENTRY, R28. -/
  | transitionEntry
  /-- LENGTH_LIMIT, R31. -/
  | lengthLimit
  /-- FORCED_CUT, R33. -/
  | forcedCut
  /-- TAIL_EXPIRY, R36. -/
  | tailExpiry
  /-- RAW_TRANSITION, R70: the terminals of input `k` now stand at `term`. -/
  | rawTransition (t : Time) (k : InputId) (term : Terminal)
  /-- DEBOUNCE_WINDOW_END, R71. -/
  | debounceWindowEnd (k : InputId) (sched : List Nat)
  /-- CHATTER_WINDOW_BOUNDARY, R75. -/
  | chatterWindowBoundary (sched : List Nat)
  /-- SUPPLY_CHECK, R149: the SAG input reads low, and the terminal levels read are `volts`. -/
  | supplyCheck (sagLow : Bool) (volts : Bank Nat 10)
  /-- LEARNING_END, R81. -/
  | learningEnd (k : InputId)
  /-- SUPERVISION_INTERVAL, R143. -/
  | supervisionInterval (sched : List Nat)
  /-- INTERLOCK_OPENING, R151. -/
  | interlockOpening (t : Time)
  /-- INTERLOCK_CLOSING, R151. -/
  | interlockClosing (t : Time)
  /-- PPS_PULSE, R133; with `entryFirst` an entry that the pulse brings about at its own tick is
  taken before the pulse is routed (R139). -/
  | ppsPulse (t : Time) (entryFirst : Bool)
  /-- HOLDOVER_ENTRY, R135. -/
  | holdoverEntry
  /-- SYNC_TIMEOUT, R135. -/
  | syncTimeout
  /-- OUTLET_SETTLE_END, R65. -/
  | outletSettleEnd
  /-- TIMER_TIMEOUT, R112. -/
  | timerTimeout (m : TimerId)
  /-- BREAKER_OPEN_COMPLETE, R121. -/
  | breakerOpenComplete (b : BreakerId)
  /-- BREAKER_CLOSE_COMPLETE, R122. -/
  | breakerCloseComplete (b : BreakerId)
  /-- POWER_LOSS, R189. -/
  | powerLoss (t : Time)
deriving DecidableEq, Repr

end Sys2Proof
end

