-- ==== Sys2Proof/Decode.lean ====
section
/-! DEFINITION. The command that a word spells by the bits of spec/opcode_table.json. Every row of
that table has an empty field list and no bits, so no word spells a command. -/

namespace Sys2Proof

/-- No row of the opcode table gives bits: a word of any width spells no command. -/
def decodeTableWord (_nbits _w : Nat) : Option Instr := none

end Sys2Proof
end

