-- ==== Sys2Proof/Config.lean ====
section
/-! DEFINITION. What is fixed for one engine, and the free values: constants without a body, which
no proof can evaluate, for what the manual leaves open. -/

namespace Sys2Proof.Config

/-- FREE VALUE (R189, log 7). The CRC that stands in a stored record whose calibration write was
interrupted. Applied to the counter `State.freeCount`. -/
opaque interruptedCrc : Nat → BitVec 16

/-- FREE VALUE (R191, log 32). The low byte of the split level of a FAST learning, which a request
of LEN 5 does not carry. Applied to the counter `State.freeCount`. -/
opaque missingSplitByte : Nat → Byte

/-- The part code of GINF (R184). -/
def partCode : Nat := 0x0410

/-- The design revision of GINF (R184). -/
def revision : Nat := 2

/-- Nominal gain of a voltage outlet (R48, R187). -/
def gainVoltage : Nat := 71581

/-- Nominal gain of a current outlet (R48, R187). -/
def gainCurrent : Nat := 85897

/-- Default continuous rating C of a current outlet, mA (R187). -/
def ratingDefault : Nat := 10000

/-- Default thermal capacity W of a current outlet (R187). -/
def capacityDefault : Nat := 157500000000

/-- The latest time a report can show, µs after t0 (R31). -/
def reportLimit : Nat := 4000000000

end Sys2Proof.Config
end

