-- ==== Sys2Proof/Machine/State.lean ====
section
/-! DEFINITION. The state of the engine, block by block, as plain data, with the reasons a step can
stop and the state right after reset. Each field's docstring names the rule that gives it. -/

namespace Sys2Proof.Machine

/-! ## Sequences and the sequencer (01, 02) -/

/-- Power off, held in reset by RSTN, or running (R38, R172). -/
inductive PowerState where
  | off | held | up
deriving DecidableEq, Repr

/-- The sequencer states (R2). -/
inductive SeqState where
  | empty | ready | armed | running | stopping | tail
deriving DecidableEq, Repr

/-- Settings of one logical channel in a state record (R3). -/
structure ChanSetting where
  amp : Nat
  angle : Nat
  freq : Nat
deriving DecidableEq, Repr

/-- When a transition is taken (R5). -/
inductive ArrivalMode where
  | immediate
  | atAngle (ref : Channel) (angle : Nat)
  | atPps
deriving DecidableEq, Repr

/-- An arrival rule: mode and phase mode; `reset` is phase mode RESET (R5). -/
structure Rule where
  mode : ArrivalMode
  reset : Bool
deriving DecidableEq, Repr

/-- An arrival exception (R6). -/
structure ArrivalException where
  source : StateIdx
  rule : Rule
deriving DecidableEq, Repr

/-- What a ramp steps (R7). -/
inductive Quantity where
  | amplitude | phase | frequency
deriving DecidableEq, Repr

/-- A ramp: channel set, quantity, signed step, dwell in ms, step count (R7). -/
structure Ramp where
  chans : Bank Bool 10
  quantity : Quantity
  step : Int
  dwell : Nat
  count : Nat
deriving DecidableEq, Repr

/-- A state record (R3). `next` is none for END; `pattern` is the set of outputs closed. -/
structure StateRecord where
  tag : Nat
  chans : Bank ChanSetting 10
  duration : Nat
  next : Option StateIdx
  pattern : Bank Bool 8
  rule : Rule
  exceptions : List ArrivalException
  ramp : Option Ramp
deriving DecidableEq, Repr

/-- What a supply sag does in a shot (R8). -/
inductive SagMode where
  | warn | stop
deriving DecidableEq, Repr

/-- The sequence header (R8). -/
structure Header where
  tag : Nat
  tail : Nat
  sagMode : SagMode
  persistence : Nat
deriving DecidableEq, Repr

/-- The two kinds of qualified edge (R19, R73). -/
inductive Edge where
  | active | inactive
deriving DecidableEq, Repr

/-- The start source of an arm (R19). -/
inductive StartSource where
  | now
  | pps (n : Nat)
  | input (k : InputId) (edge : Edge)
deriving DecidableEq, Repr

/-- The cause of a state entry (R28). -/
inductive Cause where
  | start | expiry | trigger (i : TrigIdx)
deriving DecidableEq, Repr

/-- A pending transition (R18, R25). `untestable` marks an AT_ANGLE reference of frequency or
amplitude 0 at the request (R27); `pulse` is the valid PPS that ended an AT_PPS wait (R139). -/
structure Pending where
  target : StateIdx
  cause : Cause
  source : StateIdx
  request : Time
  rule : Rule
  deadline : Option Time
  untestable : Bool
  pulse : Option Time
deriving DecidableEq, Repr

/-- The hard causes (R34). -/
inductive HardCause where
  | abort | interlock | overload (o : CurrentOutlet) | supplySag
deriving DecidableEq, Repr

/-- End reasons of a shot (R32, R34, R35). -/
inductive EndReason where
  | complete | endShot | stop | lengthLimit | hard (c : HardCause)
deriving DecidableEq, Repr

/-- The reject sources (R152). -/
inductive RejectSource where
  | interlockOpen | supplySag | outletSettling | mapDisconnected | mapMismatch | learning
  | reportFull | noSync
  | outletHot (o : CurrentOutlet)
  | uncalibrated (o : Outlet)
deriving DecidableEq, Repr

/-- The cancel reason (R18). -/
inductive CancelReason where
  | never | disarm | source (r : RejectSource)
deriving DecidableEq, Repr

/-- The sequencer: the sequence table, the header in force, the commit flag and the shot context
(R1, R2, R18). -/
structure Sequencer where
  /-- R1: the 24 places. -/
  table : Bank (Option StateRecord) 24
  /-- R1: the header in force. -/
  header : Header
  /-- R2: the commit flag. -/
  commit : Bool
  /-- R2: the sequencer state. -/
  st : SeqState
  /-- R18: the start source. -/
  source : Option StartSource
  /-- R18: the PPS count. -/
  ppsCount : Nat
  /-- R19, R20: t0 of a start that is due and not yet taken. -/
  startDue : Option Time
  /-- R22: engine time of the start of the shot. -/
  t0 : Time
  /-- R18: the state in force. -/
  inForce : Option StateIdx
  /-- R18: the pending transition. -/
  pend : Option Pending
  /-- R24: the duration timer. -/
  durationDue : Option Time
  /-- R30: ramp steps taken. -/
  rampSteps : Nat
  /-- R30: the next dwell expiry. -/
  dwellDue : Option Time
  /-- R18: end reason of the stop record. -/
  endReason : Option EndReason
  /-- R18: stop-begin time of the stop record. -/
  stopBegin : Time
  /-- R18: further-causes set of the stop record, without repetition. -/
  further : List HardCause
  /-- R36: the tail timer. -/
  tailDue : Option Time
  /-- R18: the shot number counter. -/
  shotNo : Nat
  /-- R18: the cancel reason. -/
  cancel : CancelReason
deriving DecidableEq, Repr

/-! ## The synthesizer (03) -/

/-- Silence statuses (R54). -/
inductive Silence where
  | clear | interruptPending | interrupted | restoring | stopPending | stopped
deriving DecidableEq, Repr

/-- One logical channel of the synthesizer (R43). -/
structure Chan where
  /-- Live amplitude (R43). -/
  amp : Nat
  /-- Live angle, cdeg (R43). -/
  angle : Nat
  /-- Live frequency, mHz (R43). -/
  freq : Nat
  /-- Increment Δ (R44). -/
  delta : Phase
  /-- Offset Φ (R45). -/
  phi : Phase
  /-- Accumulator ψ (R46). -/
  psi : Phase
  /-- Silence status (R54). -/
  status : Silence
  /-- Time of the request that waits (R55 to R57, R59). -/
  since : Time
  /-- Phase word at the last tick (R27, R53). -/
  prev : Phase
  /-- No crossing is recognised at the coming tick: it is t0, an entry tick or the tick of a PHASE
  step of this channel (R53). -/
  fresh : Bool
deriving DecidableEq, Repr

/-- Arrangements of the outlet map (R61). -/
inductive Arrangement where
  | standard | swapped | parallel | disconnected
deriving DecidableEq, Repr

/-- The outlet map (R61). -/
structure OutletMap where
  reversed : Bool
  arrangement : Arrangement
deriving DecidableEq, Repr

/-- The waveform synthesizer. -/
structure Synth where
  /-- R43: the ten logical channels. -/
  chans : Bank Chan 10
  /-- R61: the outlet map in force. -/
  map : OutletMap
  /-- R63: contactors, true when closed. -/
  contactors : Bank Bool 10
  /-- R63: end time of an outlet settle. -/
  settle : Option Time
  /-- R47: outlet amplitudes, after the rating clamp. -/
  amps : Bank Nat 10
  /-- R48: peak codes. -/
  peaks : Bank Nat 10
  /-- R47: the clamped-outlet set. -/
  clamped : Bank Bool 10
  /-- R50, R51, R58: the standing code of each DAC stream. -/
  dac : Bank Int 10
deriving DecidableEq, Repr

/-! ## Binary inputs (04) -/

/-- Configuration of an input (R67). `wet` is mode WET; `activeHigh` is active level ENERGISED. -/
structure InputConfig where
  wet : Bool
  code : Nat
  debounce : Nat
  activeHigh : Bool
  limit : Nat
deriving DecidableEq, Repr

/-- An open debounce window (R71). `counted` says that its opening transition was taken in a shot
(R74). -/
structure Window where
  opened : Time
  ends : Time
  counted : Bool
deriving DecidableEq, Repr

/-- Learning methods with their parameters (R78). -/
inductive Method where
  | fast (low high split : Nat)
  | full (upper : Nat) (trim : Int)
deriving DecidableEq, Repr

/-- A learning in progress (R67, R79). -/
structure Learning where
  method : Method
  readings : Nat
  sum : Nat
deriving DecidableEq, Repr

/-- A learning record (R67, R81). `full` names the method, `set` the outcome SET. -/
structure LearnRecord where
  full : Bool
  vOn : Nat
  code : Nat
  set : Bool
deriving DecidableEq, Repr

/-- One binary input (R67). Levels are true for ENERGISED. -/
structure Input where
  /-- R67: configuration. -/
  cfg : InputConfig
  /-- R69, R70: the condition of the terminals. -/
  term : Terminal
  /-- R67: raw level. -/
  raw : Bool
  /-- R67: qualified level. -/
  qual : Bool
  /-- R67: debounce window. -/
  window : Option Window
  /-- R67: chatter status, true in CHATTER. -/
  chatter : Bool
  /-- R67: the held level of CHATTER. -/
  held : Bool
  /-- R67: chatter window count. -/
  count : Nat
  /-- R75, R76: transitions already taken that belong to the window whose boundary is due. -/
  early : Nat
  /-- R67: latest level reading. -/
  reading : Nat
  /-- R67: learning status. -/
  learn : Option Learning
  /-- R67: learning record. -/
  record : Option LearnRecord
  /-- R74: bounces of the shot. -/
  bounces : Nat
  /-- R74: qualified edges of the shot. -/
  edges : Nat
  /-- R74: chatter periods of the shot. -/
  periods : Nat
  /-- R77: in-chatter flag of the shot. -/
  inChatter : Bool
deriving DecidableEq, Repr

/-! ## Trigger table (05) -/

/-- Event kinds with operands (R86). -/
inductive EventKind where
  | shotStart
  | stateEnter (s : StateIdx)
  | stateExit (s : StateIdx)
  | inputActive (k : InputId)
  | inputInactive (k : InputId)
  | timerStop (m : TimerId)
  | timerTimeout (m : TimerId)
  | breakerOpen (b : BreakerId)
  | breakerClosed (b : BreakerId)
  | rampStep
  | rampEnd
  | pps
deriving DecidableEq, Repr

/-- An event offered to the trigger table: kind, event time, routing time (R86). -/
structure Event where
  kind : EventKind
  time : Time
  routed : Time
deriving DecidableEq, Repr

/-- Actions with operands (R91). -/
inductive Action where
  | goto (s : StateIdx)
  | endShot
  | startTimer (m : TimerId)
  | stopTimer (m : TimerId)
  | trip (b : BreakerId)
  | close (b : BreakerId)
  | mark
deriving DecidableEq, Repr

/-- A loaded trigger entry (R84). -/
structure TrigEntry where
  enabled : Bool
  event : EventKind
  filter : Option StateIdx
  occurrence : Nat
  action : Action
deriving DecidableEq, Repr

/-- A place of the trigger table: unloaded or an entry, and its occurrence counter (R84). -/
structure TrigSlot where
  entry : Option TrigEntry
  count : Nat
deriving DecidableEq, Repr

/-! ## Measurement timers (06) -/

/-- Timer modes (R100). -/
inductive TimerMode where
  | interval
  | width (k : InputId)
  | count (k : InputId)
deriving DecidableEq, Repr

/-- Configuration of a timer (R100). -/
structure TimerConfig where
  enabled : Bool
  mode : TimerMode
  limit : Nat
  timeout : Nat
  auto : Bool
deriving DecidableEq, Repr

/-- Run states of a timer (R100). -/
inductive RunState where
  | idle | running | stopped | timedOut
deriving DecidableEq, Repr

/-- A lap (R100, R105). -/
structure Lap where
  stop : Time
  value : Nat
  early : Bool
deriving DecidableEq, Repr

/-- One measurement timer (R100). -/
structure Timer where
  cfg : TimerConfig
  run : RunState
  start : Option Time
  amps : Option (Bank Nat 10)
  due : Option Time
  laps : List Lap
  pulse : Option Time
  count : Nat
  extra : Nat
  late : Nat
  lastActive : Option Time
deriving DecidableEq, Repr

/-! ## Breakers and binary outputs (07) -/

/-- Current groups of a breaker (R114). -/
inductive Group where
  | groupI | groupJ
deriving DecidableEq, Repr

/-- Configuration of a breaker (R114). `line` is side LINE; `startsOpen` is initial state OPEN. -/
structure BrkConfig where
  enabled : Bool
  trip : Option InputId
  close : Option InputId
  openTime : Nat
  closeTime : Nat
  out52a : Option BoutId
  out52b : Option BoutId
  group : Option Group
  line : Bool
  startsOpen : Bool
deriving DecidableEq, Repr

/-- Breaker states (R114). -/
inductive BrkState where
  | closed | opening | opened | closing
deriving DecidableEq, Repr

/-- The cause of a breaker command (R118). -/
inductive CmdCause where
  | input (k : InputId)
  | trigger (i : TrigIdx)
deriving DecidableEq, Repr

/-- The operation in progress (R114): an open (`opens`) or a close, its command time, cause and due
time, and the command time of the close that a trip-free open replaced. -/
structure Operation where
  opens : Bool
  command : Time
  cause : CmdCause
  due : Time
  replaced : Option Time
deriving DecidableEq, Repr

/-- Kinds of operation list entry (R125). -/
inductive OpKind where
  | opened | closed | tripRefused | closeRefused
deriving DecidableEq, Repr

/-- Why a command was refused (R125). -/
inductive OpRefusal where
  | accepted
  | state (b : BrkState)
  | tripFree
deriving DecidableEq, Repr

/-- An entry of the operation list; times relative to t0 (R125). -/
structure OpEntry where
  kind : OpKind
  command : Nat
  completion : Nat
  cause : CmdCause
  refusal : OpRefusal
  replaced : Option Nat
deriving DecidableEq, Repr

/-- One simulated breaker (R114). The state of a disabled breaker has no meaning. -/
structure Breaker where
  cfg : BrkConfig
  st : BrkState
  op : Option Operation
  ops : List OpEntry
  overflow : Nat
deriving DecidableEq, Repr

/-- Owner of a binary output (R128). -/
inductive Owner where
  | breaker | sequence | nobody
deriving DecidableEq, Repr

/-- One binary output: owner and level (R128). -/
structure Output where
  owner : Owner
  closed : Bool
deriving DecidableEq, Repr

/-! ## Time base (08) -/

/-- Sync states (R132). -/
inductive Sync where
  | noSync | acquiring | locked | holdover
deriving DecidableEq, Repr

/-- The time base beside engine time (R132). -/
structure TimeBase where
  latest : Option Time
  sync : Sync
  glitch : Bool
deriving DecidableEq, Repr

/-- The next periodic instants (R131) and the sample grid (R23). -/
structure Clock where
  nextSupply : Time
  nextSupervision : Time
  nextChatter : Time
  /-- The t0 that anchors the sample grid; none for the grid of power-on (R23). -/
  anchor : Option Time
  nextTick : Time
deriving DecidableEq, Repr

/-! ## Output supervision (09) -/

/-- The thermal account of one current outlet (R142). `given` is warning status GIVEN, `hot` is hot
status HOT. -/
structure Thermal where
  heat : Nat
  given : Bool
  hot : Bool
  peak : Nat
deriving DecidableEq, Repr

/-- Output supervision (R142, R149, R151). -/
structure Supervision where
  thermal : Bank Thermal 6
  low : Nat
  sag : Bool
  interlockOpen : Bool
deriving DecidableEq, Repr

/-! ## Shot reports (10) -/

/-- A trail entry (R160). -/
structure TrailEntry where
  state : StateIdx
  tag : Nat
  time : Nat
  cause : Cause
  angleMissed : Bool
  ppsMissed : Bool
  superseded : Bool
deriving DecidableEq, Repr

/-- A trigger log entry (R90). -/
structure LogEntry where
  entry : TrigIdx
  time : Nat
  superseded : Bool
deriving DecidableEq, Repr

/-- A mark (R95). -/
structure Mark where
  time : Nat
  state : StateIdx
  step : Nat
  live : Option Nat
deriving DecidableEq, Repr

/-- Timer outcomes (R113). -/
inductive TimerOutcome where
  | disabled | notStarted | opened | stopped | timedOut
deriving DecidableEq, Repr

/-- A timer result (R113). -/
structure TimerResult where
  mode : TimerMode
  start : Option Nat
  outcome : TimerOutcome
  laps : List Lap
  count : Nat
  extra : Nat
  late : Nat
deriving DecidableEq, Repr

/-- Verdicts (R167). -/
inductive Verdict where
  | pass | passNoTrip | failEarly | failLate | failUnexpectedTrip | failNoTrip | notGraded
deriving DecidableEq, Repr

/-- An entry of the GRADES section (R167); `measured` carries the EARLY flag. -/
structure GradeEntry where
  grade : GradeId
  verdict : Verdict
  m : Option Nat
  expected : Option Nat
  measured : Option (Nat × Bool)
  band : Option Nat
deriving DecidableEq, Repr

/-- The per-shot counts of one input (R74). -/
structure InputCounts where
  bounces : Nat
  edges : Nat
  periods : Nat
deriving DecidableEq, Repr

/-- The report flags (R159). -/
structure Flags where
  angleMissed : Bool
  ppsMissed : Bool
  chainLimit : Bool
  stopForced : Bool
  rampLimit : Bool
  sagSeen : Bool
deriving DecidableEq, Repr

/-- A report: its header and its seven sections (R159, R160). -/
structure Report where
  shotNo : Nat
  tag : Nat
  t0 : Time
  source : StartSource
  ppsRef : Option (Nat × Sync)
  map : OutletMap
  endReason : Option EndReason
  further : List HardCause
  stopBegin : Nat
  finalize : Nat
  flags : Flags
  clamped : Bank Bool 10
  chatter : Bank Bool 10
  peaks : Bank Nat 6
  trail : List TrailEntry
  trailOver : Nat
  timers : List TimerResult
  grades : List GradeEntry
  ops : Bank (List OpEntry) 2
  opsOver : Bank Nat 2
  log : List LogEntry
  logOver : Nat
  marks : List Mark
  marksOver : Nat
  inputs : List InputCounts
deriving DecidableEq, Repr

/-- A held report; `unread` is slot state UNREAD, otherwise READ (R155). -/
structure HeldReport where
  report : Report
  unread : Bool
deriving DecidableEq, Repr

/-- The slot of the shot armed or in progress (R155). -/
inductive CurSlot where
  | noSlot | reserved | filling
deriving DecidableEq, Repr

/-- A point of a curve (R162). -/
structure Point where
  m : Nat
  t : Nat
deriving DecidableEq, Repr

/-- The characteristic of a grade record (R164). -/
inductive Characteristic where
  | definite (tExp mPick : Nat)
  | curve (c : CurveId)
deriving DecidableEq, Repr

/-- A grade record (R164). -/
structure Grade where
  timer : TimerId
  lap : Nat
  ref : Channel
  setting : Nat
  char : Characteristic
  relTol : Nat
  absTol : Nat
deriving DecidableEq, Repr

/-- Report store and grader. Of the sixteen slots, those not held and not current are FREE. -/
structure ReportStore where
  /-- R158: the held reports, oldest first. -/
  held : List HeldReport
  /-- R155: the slot RESERVED or FILLING for the current shot. -/
  cur : CurSlot
  /-- R161: the report being written while `cur` is FILLING. -/
  fill : Report
  /-- R162: the curves; none is unloaded. -/
  curves : Bank (Option (List Point)) 4
  /-- R164: the grade records; none is empty. -/
  grades : Bank (Option Grade) 8
deriving DecidableEq, Repr

/-! ## Calibration store (11.7) -/

/-- A calibration record; a voltage outlet's C and W are 0 (R187, R189). -/
structure CalRecord where
  gain : Nat
  offset : Int
  rating : Nat
  capacity : Nat
deriving DecidableEq, Repr

/-- An outlet's record in non-volatile memory: its fields and the CRC stored with them (R187). -/
structure Stored where
  fields : CalRecord
  crc : BitVec 16
deriving DecidableEq, Repr

/-- The identity record in non-volatile memory: the serial number and the CRC stored with it (R184). -/
structure Identity where
  serial : BitVec 32
  crc : BitVec 16
deriving DecidableEq, Repr

/-- Check statuses (R187). -/
inductive CalStatus where
  | good | defaulted | written
deriving DecidableEq, Repr

/-- The WCAL write in progress (R179, R189). -/
structure CalWrite where
  outlet : Outlet
  fields : CalRecord
deriving DecidableEq, Repr

/-- The calibration store. -/
structure Calibration where
  /-- R187: the ten outlet records of the memory. -/
  stored : Bank Stored 10
  /-- R184: the identity record of the memory. -/
  identity : Identity
  /-- R187: the working copies. -/
  working : Bank CalRecord 10
  /-- R187: the check statuses. -/
  status : Bank CalStatus 10
  /-- R184: the serial number that the last check of the identity record gave; none when it failed. -/
  serial : Option (BitVec 32)
  /-- R179, R189: the WCAL write in progress. -/
  write : Option CalWrite
deriving DecidableEq, Repr

/-! ## Link interface (11) -/

/-- States of the receive assembler (R173). -/
inductive RxPhase where
  | hunting | length | tag | kind | body | crcHigh | crcLow
deriving DecidableEq, Repr

/-- The receive assembler (R173). -/
structure Assembler where
  phase : RxPhase
  len : Nat
  tag : Byte
  kind : Byte
  body : List Byte
  crcHigh : Byte
  last : Time
deriving DecidableEq, Repr

/-- A request frame (11.2). -/
structure Frame where
  kind : Byte
  tag : Byte
  body : List Byte
deriving DecidableEq, Repr

/-- What a frame of the transmit order is (R177, R181, R186). -/
inductive TxKind where
  | reply | resetReply | busy | note
deriving DecidableEq, Repr

/-- A frame of the transmit order. The body of a NOTE is formed when its transmission begins, so a
NOTE that waits is not `formed` (R181). -/
structure TxFrame where
  what : TxKind
  formed : Bool
  frame : Frame
deriving DecidableEq, Repr

/-- Notice kinds (R180). -/
inductive Notice where
  | started | shotStarted | shotEnded | armCancelled | outletReady | learnDone | overloadWarn
  | overload | interlockOpen | syncChanged | chatter | linkError
deriving DecidableEq, Repr

/-- The link interface. Sets of notice kinds are indexed by the bits of R180. -/
structure Link where
  strap : Strap
  rx : Assembler
  /-- R176: the executing request, and behind it the waiting one. -/
  queue : List Frame
  /-- R177: the transmit order, the frame being sent first. -/
  order : List TxFrame
  /-- R181: a further NOTE is due while one is being sent (log 12). -/
  noteDue : Bool
  /-- R186: an ERST has been executed and its reset has not yet taken effect. -/
  resetting : Bool
  /-- R181: the pending set. -/
  noticeSet : Bank Bool 12
  /-- R181: the notice mask, true enables. -/
  mask : Bank Bool 12
deriving DecidableEq, Repr

/-! ## The machine -/

/-- The whole state: the blocks, engine time, and the queue of commands that wait. -/
structure State where
  /-- R38, R172. -/
  power : PowerState
  /-- Engine time (R131). -/
  now : Time
  /-- The model's own counter, read by the free values (log 7). -/
  freeCount : Nat
  clock : Clock
  seq : Sequencer
  syn : Synth
  inp : Bank Input 10
  trg : Bank TrigSlot 32
  tmr : Bank Timer 8
  brk : Bank Breaker 2
  out : Bank Output 8
  tb : TimeBase
  sup : Supervision
  rep : ReportStore
  cal : Calibration
  link : Link
  /-- The commands that wait, first in first out. -/
  pending : List Instr
deriving DecidableEq, Repr

/-- The reasons for which the machine stops. The manual names none: no constructor. -/
inductive Fault : Type
deriving DecidableEq, Repr

/-- The reasons for which a command has no meaning. -/
inductive Refusal where
  /-- Raised by an arm of `exec` for a command that has no meaning yet: safe. -/
  | notModelled (mnemonic : String)
deriving DecidableEq, Repr

/-! ## The state after reset -/

/-- R1: the default header. -/
def Header.default : Header := { tag := 0, tail := 0, sagMode := .stop, persistence := 5 }

/-- R1, R2, R18: the sequencer after power-on. -/
def Sequencer.initial : Sequencer :=
  { table := .fill 24 none, header := .default, commit := false, st := .empty, source := none,
    ppsCount := 0, startDue := none, t0 := 0, inForce := none, pend := none, durationDue := none,
    rampSteps := 0, dwellDue := none, endReason := none, stopBegin := 0, further := [],
    tailDue := none, shotNo := 0, cancel := .never }

/-- R43: a channel after power-on. -/
def Chan.initial : Chan :=
  { amp := 0, angle := 0, freq := 0, delta := 0, phi := 0, psi := 0, status := .clear, since := 0,
    prev := 0, fresh := true }

/-- R43, R61: the synthesizer after power-on. -/
def Synth.initial : Synth :=
  { chans := .fill 10 .initial, map := { reversed := false, arrangement := .disconnected },
    contactors := .fill 10 false, settle := none, amps := .fill 10 0, peaks := .fill 10 0,
    clamped := .fill 10 false, dac := .fill 10 0 }

/-- R67: the default configuration of an input. -/
def InputConfig.default : InputConfig :=
  { wet := false, code := 6, debounce := 10, activeHigh := true, limit := 0 }

/-- R67: an input after power-on with its contact open and its terminals at 0 V. -/
def Input.initial : Input :=
  { cfg := .default, term := { volts := 0, closed := false }, raw := false, qual := false,
    window := none, chatter := false, held := false, count := 0, early := 0, reading := 0,
    learn := none, record := none, bounces := 0, edges := 0, periods := 0, inChatter := false }

/-- R100: the configuration of a timer after power-on. -/
def TimerConfig.default : TimerConfig :=
  { enabled := false, mode := .interval, limit := 1, timeout := 0, auto := false }

/-- R100: a timer after power-on. -/
def Timer.initial : Timer :=
  { cfg := .default, run := .idle, start := none, amps := none, due := none, laps := [],
    pulse := none, count := 0, extra := 0, late := 0, lastActive := none }

/-- R114: the configuration of a breaker after power-on. -/
def BrkConfig.default : BrkConfig :=
  { enabled := false, trip := none, close := none, openTime := 0, closeTime := 0, out52a := none,
    out52b := none, group := none, line := false, startsOpen := false }

/-- R114: a breaker after power-on. -/
def Breaker.initial : Breaker :=
  { cfg := .default, st := .closed, op := none, ops := [], overflow := 0 }

/-- R159: no flag set. -/
def Flags.noFlag : Flags :=
  { angleMissed := false, ppsMissed := false, chainLimit := false, stopForced := false,
    rampLimit := false, sagSeen := false }

/-- R156: the contents of a slot that has been emptied. -/
def Report.empty : Report :=
  { shotNo := 0, tag := 0, t0 := 0, source := .now, ppsRef := none,
    map := { reversed := false, arrangement := .disconnected }, endReason := none, further := [],
    stopBegin := 0, finalize := 0, flags := .noFlag, clamped := .fill 10 false,
    chatter := .fill 10 false, peaks := .fill 6 0, trail := [], trailOver := 0, timers := [],
    grades := [], ops := .fill 2 [], opsOver := .fill 2 0, log := [], logOver := 0, marks := [],
    marksOver := 0, inputs := [] }

/-- R155, R162, R164: the report store after power-on. -/
def ReportStore.initial : ReportStore :=
  { held := [], cur := .noSlot, fill := .empty, curves := .fill 4 none, grades := .fill 8 none }

/-- R187: the default record of an outlet. -/
def CalRecord.default (o : Outlet) : CalRecord :=
  if o.val < 4 then { gain := Config.gainVoltage, offset := 0, rating := 0, capacity := 0 }
  else { gain := Config.gainCurrent, offset := 0, rating := Config.ratingDefault,
         capacity := Config.capacityDefault }

/-- The bytes of an outlet's record that its CRC covers: G, O and, for a current outlet, C and W, each
high byte first. The layout is the model's (R187, log 37). -/
def CalRecord.bytes (o : Outlet) (r : CalRecord) : List Byte :=
  toBytes 4 r.gain ++ signedBytes 2 r.offset ++
    if o.val < 4 then [] else toBytes 2 r.rating ++ toBytes 6 r.capacity

/-- A record with a fresh CRC (R174, R187). -/
def Stored.fresh (o : Outlet) (r : CalRecord) : Stored := { fields := r, crc := Machine.crc (r.bytes o) }

/-- The CRC of an identity record: over its serial number, high byte first (R184, log 37). -/
def Identity.crcOf (serial : BitVec 32) : BitVec 16 := Machine.crc (toBytes 4 serial.toNat)

/-- DESIGN CHOICE (log 6): the memory holds the nominal records and the serial number 0, which pass
their checks. -/
def Calibration.initial : Calibration :=
  { stored := .ofFn fun o => .fresh o (.default o),
    identity := { serial := 0, crc := Identity.crcOf 0 }, working := .ofFn .default,
    status := .fill 10 .good, serial := some 0, write := none }

/-- R142: the thermal account after power-on: 2/5 of the capacity. -/
def Thermal.initial (w : Nat) : Thermal :=
  { heat := w * 2 / 5, given := false, hot := false, peak := 0 }

/-- R142, R149: output supervision after power-on, the loop closed (log 5). -/
def Supervision.initial : Supervision :=
  { thermal := .fill 6 (.initial Config.capacityDefault), low := 0, sag := false,
    interlockOpen := false }

/-- R173: the assembler hunting. -/
def Assembler.initial : Assembler :=
  { phase := .hunting, len := 0, tag := 0, kind := 0, body := [], crcHigh := 0, last := 0 }

/-- R172, R181: the link after power-on: STARTED pending, and its NOTE being sent (log 20). -/
def Link.initial : Link :=
  { strap := .level0, rx := .initial, queue := [],
    order := [{ what := .note, formed := true, frame := { kind := 0x40, tag := 0, body := [0, 1] } }],
    noteDue := false, resetting := false, noticeSet := (Bank.fill 12 false).set 0 true,
    mask := .fill 12 true }

/-- R132: the time base after power-on. -/
def TimeBase.initial : TimeBase := { latest := none, sync := .noSync, glitch := false }

/-- R131, R23: every multiple is a periodic instant, engine time 0 the first of them. -/
def Clock.initial : Clock :=
  { nextSupply := 0, nextSupervision := 0, nextChatter := 0, anchor := none, nextTick := 0 }

/-- The machine right after power-on. -/
def State.reset : State :=
  { power := .up, now := 0, freeCount := 0, clock := .initial, seq := .initial, syn := .initial,
    inp := .fill 10 .initial, trg := .fill 32 { entry := none, count := 0 }, tmr := .fill 8 .initial,
    brk := .fill 2 .initial, out := .fill 8 { owner := .nobody, closed := false },
    tb := .initial, sup := .initial, rep := .initial, cal := .initial, link := .initial,
    pending := [] }

end Sys2Proof.Machine
end

