-- ==== Sys2Proof/Machine/Operands.lean ====
section
/-! DEFINITION. The operand forms: engine-time arithmetic, the rounding terms, fields of bodies
(R190, R191), frames (11.2), and the reading of every request body into its operands with the ranges
its rule checks. -/

namespace Sys2Proof.Machine

/-! ## Engine time (R131) -/

/-- Microseconds from `a` to `b`, modulo 2^48 (R131). -/
def elapsed (a b : Time) : Nat := (b - a).toNat

/-- `b` is at or after `a`: every interval is shorter than 2^47 µs (R131). -/
def atOrAfter (a b : Time) : Bool := elapsed a b < 2 ^ 47

/-- `b` is later than `a`. -/
def isAfter (a b : Time) : Bool := atOrAfter a b && a != b

/-- The later of two engine times. -/
def laterOf (a b : Time) : Time := if atOrAfter a b then b else a

/-- Engine time `n` microseconds after `t`. -/
def after (t : Time) (n : Nat) : Time := t + BitVec.ofNat 48 n

/-- The next multiple of `p` after the multiple `t`; the count returns to 0 (R131). -/
def nextMultiple (p : Nat) (t : Time) : Time :=
  if t.toNat + p < 2 ^ 48 then BitVec.ofNat 48 (t.toNat + p) else 0

/-- The first multiple of `p` at or after `t`. -/
def ceilMultiple (p : Nat) (t : Time) : Time :=
  if t.toNat % p = 0 then t else nextMultiple p (BitVec.ofNat 48 (t.toNat / p * p))

/-- The instant of a periodic event: the next one, or, when engine time has passed it, the first
multiple of the period that has not passed (log 1). -/
def periodicDue (p : Nat) (next now : Time) : Time :=
  if atOrAfter now next then next else ceilMultiple p now

/-- The first tick of the sample grid at or after `t`: on the grid through a shot's t0, or on the
multiples of 100 µs before the first shot (R23). -/
def tickAtOrAfter (anchor : Option Time) (t : Time) : Time :=
  match anchor with
  | some a => if elapsed a t % 100 = 0 then t else after t (100 - elapsed a t % 100)
  | none => ceilMultiple 100 t

/-- The first tick of the sample grid after `t` (R26). -/
def tickAfter (anchor : Option Time) (t : Time) : Time :=
  match anchor with
  | some a => after t (100 - elapsed a t % 100)
  | none => nextMultiple 100 (BitVec.ofNat 48 (t.toNat / 100 * 100))

/-- A time as a report gives it: relative to t0, 0 before t0, at most 4,000,000,000 (R31, R90). -/
def relative (t0 t : Time) : Nat :=
  if atOrAfter t0 t then min (elapsed t0 t) Config.reportLimit else 0

/-! ## Rounding (00, Rounding) -/

/-- Round half up of `n / d`, for `d` positive. -/
def roundHalfUp (n d : Nat) : Nat := (2 * n + d) / (2 * d)

/-- Round half away from zero of `n / d`, for `d` positive. -/
def roundHalfAway (n : Int) (d : Nat) : Int :=
  if n < 0 then -(roundHalfUp n.natAbs d : Int) else roundHalfUp n.natAbs d

/-- A 16-bit count increased by 1, saturating at 65,535. -/
def bump (n : Nat) : Nat := min (n + 1) 65535

/-! ## Fields of a body (R190) -/

/-- The unsigned field of `n` bytes at offset `o` of a body. -/
def field (b : List Byte) (o n : Nat) : Nat := ofBytes ((b.drop o).take n)

/-- The signed field of `n` bytes at offset `o` of a body. -/
def signedField (b : List Byte) (o n : Nat) : Int :=
  let v := field b o n
  if 2 * v < 256 ^ n then v else (v : Int) - (256 ^ n : Nat)

/-- A flag byte: 0 for no, 1 for yes. -/
def flagByte (f : Bool) : List Byte := [if f then 1 else 0]

/-- The value of a bit field; bit i stands for the member at place i. -/
def bitField (members : List Bool) : Nat := members.foldr (fun f a => 2 * a + (if f then 1 else 0)) 0

/-- A set as a bit field of `n` bytes; bit i stands for member i. -/
def setBytes {m : Nat} (n : Nat) (s : Bank Bool m) : List Byte := toBytes n (bitField s.items)

/-- The set of `m` members that a bit field names. -/
def setOf (m v : Nat) : Bank Bool m := .ofFn fun i => v.testBit i.val

/-! ## Frames (11.2) -/

/-- The bytes over which a frame's CRC is taken: LEN, TAG, KIND, body (R174). -/
def frameCore (f : Frame) : List Byte := BitVec.ofNat 8 f.body.length :: f.tag :: f.kind :: f.body

/-- A frame as it stands on the line (11.2). -/
def frameBytes (f : Frame) : List Byte :=
  0xC5 :: frameCore f ++ toBytes 2 (crc (frameCore f)).toNat

/-! ## Enumerations and ranges -/

/-- An index coded from 0. -/
def index0 (n v : Nat) : Option (Fin n) := if h : v < n then some ⟨v, h⟩ else none

/-- An index coded as its number, from 1. -/
def index1 (n v : Nat) : Option (Fin n) := if v = 0 then none else index0 n (v - 1)

/-- An index coded from 1, or 0 for none; refused when above. -/
def indexOrNone (n v : Nat) : Option (Option (Fin n)) :=
  if v = 0 then some none else (index1 n v).map some

/-- A flag coded 0 or 1. -/
def flagOf (v : Nat) : Option Bool :=
  match v with
  | 0 => some false
  | 1 => some true
  | _ => none

/-- A value within a range. -/
def within (lo hi v : Nat) : Option Nat := if lo ≤ v ∧ v ≤ hi then some v else none

/-- A signed value within a range. -/
def withinInt (lo hi v : Int) : Option Int := if lo ≤ v ∧ v ≤ hi then some v else none

/-- The greatest amplitude of a channel: 30,000 for VA to VN, 50,000 for IA to JC (R3). -/
def ampLimit (c : Channel) : Nat := if c.val < 4 then 30000 else 50000

/-! ## LSTA (R10, R190) -/

/-- The settings of one channel, 8 bytes at offset 3 + 8c (R190). -/
def readChan (b : List Byte) (c : Channel) : Option ChanSetting := do
  let amp ← within 0 (ampLimit c) (field b (3 + 8 * c.val) 2)
  let angle ← within 0 35999 (field b (5 + 8 * c.val) 2)
  let freq ← within 0 1000000 (field b (7 + 8 * c.val) 4)
  some { amp, angle, freq }

/-- The settings of all ten channels: some only when every channel is in range. -/
def readChans (b : List Byte) : Option (Bank ChanSetting 10) :=
  if (List.finRange 10).all fun c => (readChan b c).isSome then
    some (.ofFn fun c => (readChan b c).getD { amp := 0, angle := 0, freq := 0 })
  else none

/-- An arrival rule, 5 bytes: mode, reference channel, angle, phase mode (R190). -/
def readRule (b : List Byte) (o : Nat) : Option Rule := do
  let reset ← flagOf (field b (o + 4) 1)
  match field b o 1 with
  | 0 => some { mode := .immediate, reset }
  | 1 =>
    let ref ← index0 10 (field b (o + 1) 1)
    let angle ← within 0 35999 (field b (o + 2) 2)
    some { mode := .atAngle ref angle, reset }
  | 2 => some { mode := .atPps, reset }
  | _ => none

/-- `n` arrival exceptions from offset `o`, 6 bytes each (R190). -/
def readExceptions (b : List Byte) : Nat → Nat → Option (List ArrivalException)
  | 0, _ => some []
  | n + 1, o => do
    let source ← index0 24 (field b o 1)
    let rule ← readRule b (o + 1)
    let rest ← readExceptions b n (o + 6)
    some ({ source, rule } :: rest)

/-- A ramp quantity with the limit of its step (R7). -/
def readQuantity (v : Nat) : Option (Quantity × Int) :=
  match v with
  | 0 => some (.amplitude, 5000)
  | 1 => some (.phase, 18000)
  | 2 => some (.frequency, 100000)
  | _ => none

/-- A ramp from offset `o`, 11 bytes (R7, R190). -/
def readRamp (b : List Byte) (o : Nat) : Option Ramp := do
  let set ← within 1 1023 (field b o 2)
  let (quantity, limit) ← readQuantity (field b (o + 2) 1)
  let step ← withinInt (-limit) limit (signedField b (o + 3) 4)
  if step = 0 then none
  else do
    let dwell ← within 1 60000 (field b (o + 7) 2)
    let count ← within 1 1000 (field b (o + 9) 2)
    some { chans := setOf 10 set, quantity, step, dwell, count }

/-- The ramp, or its absence, behind `e` exceptions. -/
def readRampOption (b : List Byte) (e : Nat) : Option (Option Ramp) :=
  match field b (95 + 6 * e) 1 with
  | 0 => some none
  | 1 => (readRamp b (96 + 6 * e)).map some
  | _ => none

/-- The next-on-expiry field: a state, or END (R190). -/
def readNext (v : Nat) : Option (Option StateIdx) :=
  if v = 0xFF then some none else (index0 24 v).map some

/-- The operands of LSTA: the index and the record; none when an item of R10 fails. -/
def readLsta (b : List Byte) : Option (StateIdx × StateRecord) := do
  let idx ← index0 24 (field b 0 1)
  let chans ← readChans b
  let duration ← within 0 3600000 (field b 83 4)
  let next ← readNext (field b 87 1)
  let rule ← readRule b 89
  let e ← within 0 4 (field b 94 1)
  let exceptions ← readExceptions b e 95
  let ramp ← readRampOption b e
  if (exceptions.map (·.source)).Nodup then
    some (idx, { tag := field b 1 2, chans, duration, next, pattern := setOf 8 (field b 88 1), rule,
                 exceptions, ramp })
  else none

/-! ## The body of LSTA, written from a record (R190) -/

/-- The settings of one channel, 8 bytes. -/
def chanBytes (c : ChanSetting) : List Byte := toBytes 2 c.amp ++ toBytes 2 c.angle ++ toBytes 4 c.freq

/-- The code of an arrival mode with its reference channel and angle; 0 where unused. -/
def ArrivalMode.code : ArrivalMode → Nat × Nat × Nat
  | .immediate => (0, 0, 0)
  | .atAngle ref angle => (1, ref.val, angle)
  | .atPps => (2, 0, 0)

/-- An arrival rule, 5 bytes. -/
def ruleBytes (r : Rule) : List Byte :=
  toBytes 1 r.mode.code.1 ++ toBytes 1 r.mode.code.2.1 ++ toBytes 2 r.mode.code.2.2 ++ flagByte r.reset

/-- An arrival exception, 6 bytes. -/
def exceptionBytes (e : ArrivalException) : List Byte := toBytes 1 e.source.val ++ ruleBytes e.rule

/-- The code of a ramp quantity. -/
def Quantity.code : Quantity → Nat
  | .amplitude => 0
  | .phase => 1
  | .frequency => 2

/-- A ramp, 11 bytes. -/
def rampBytes (r : Ramp) : List Byte :=
  setBytes 2 r.chans ++ toBytes 1 r.quantity.code ++ signedBytes 4 r.step ++ toBytes 2 r.dwell ++
    toBytes 2 r.count

/-- The ramp-present byte, and the ramp behind it. -/
def rampOptionBytes (r : Option Ramp) : List Byte :=
  match r with
  | none => toBytes 1 0
  | some r => toBytes 1 1 ++ rampBytes r

/-- The body of the LSTA that loads a record into a place. -/
def lstaBody (i : StateIdx) (r : StateRecord) : List Byte :=
  toBytes 1 i.val ++ toBytes 2 r.tag ++ r.chans.items.flatMap chanBytes ++ toBytes 4 r.duration ++
  toBytes 1 ((r.next.map (·.val)).getD 0xFF) ++ setBytes 1 r.pattern ++ ruleBytes r.rule ++
  toBytes 1 r.exceptions.length ++ r.exceptions.flatMap exceptionBytes ++ rampOptionBytes r.ramp

/-! ## The other requests (R191) -/

/-- CMIT: the header (R8). -/
def readCmit (b : List Byte) : Option Header := do
  let tail ← within 0 10000 (field b 2 2)
  let stop ← flagOf (field b 4 1)
  let persistence ← within 1 50 (field b 5 1)
  some { tag := field b 0 2, tail, sagMode := if stop then .stop else .warn, persistence }

/-- The event of LTRG (R86, R190). -/
def readEvent (kind operand : Nat) : Option EventKind :=
  match kind with
  | 0 => some .shotStart
  | 1 => (index0 24 operand).map .stateEnter
  | 2 => (index0 24 operand).map .stateExit
  | 3 => (index1 10 operand).map .inputActive
  | 4 => (index1 10 operand).map .inputInactive
  | 5 => (index1 8 operand).map .timerStop
  | 6 => (index1 8 operand).map .timerTimeout
  | 7 => (index1 2 operand).map .breakerOpen
  | 8 => (index1 2 operand).map .breakerClosed
  | 9 => some .rampStep
  | 10 => some .rampEnd
  | 11 => some .pps
  | _ => none

/-- The action of LTRG (R91, R190). -/
def readAction (kind operand : Nat) : Option Action :=
  match kind with
  | 0 => (index0 24 operand).map .goto
  | 1 => some .endShot
  | 2 => (index1 8 operand).map .startTimer
  | 3 => (index1 8 operand).map .stopTimer
  | 4 => (index1 2 operand).map .trip
  | 5 => (index1 2 operand).map .close
  | 6 => some .mark
  | _ => none

/-- LTRG: the index and the entry (R85). -/
def readLtrg (b : List Byte) : Option (TrigIdx × TrigEntry) := do
  let idx ← index0 32 (field b 0 1)
  let enabled ← flagOf (field b 1 1)
  let event ← readEvent (field b 2 1) (field b 3 1)
  let filter ← readNext (field b 4 1)
  let action ← readAction (field b 6 1) (field b 7 1)
  some (idx, { enabled, event, filter, occurrence := field b 5 1, action })

/-- The mode of CTMR (R101). -/
def readTimerMode (mode input : Nat) : Option TimerMode :=
  match mode with
  | 0 => some .interval
  | 1 => (index1 10 input).map .width
  | 2 => (index1 10 input).map .count
  | _ => none

/-- The stop limit of CTMR: not checked for COUNT, which is held with 1 (R101). -/
def readStopLimit (mode : TimerMode) (v : Nat) : Option Nat :=
  match mode with
  | .count _ => some 1
  | .interval => within 1 4 v
  | .width _ => within 1 4 v

/-- CTMR: the timer and its configuration (R101). -/
def readCtmr (b : List Byte) : Option (TimerId × TimerConfig) := do
  let m ← index1 8 (field b 0 1)
  let enabled ← flagOf (field b 1 1)
  let mode ← readTimerMode (field b 2 1) (field b 3 1)
  let limit ← readStopLimit mode (field b 4 1)
  let timeout ← within 0 600000 (field b 5 4)
  let auto ← flagOf (field b 9 1)
  some (m, { enabled, mode, limit, timeout, auto })

/-- The current group of CBRK (R115). -/
def readGroup (v : Nat) : Option (Option Group) :=
  match v with
  | 0 => some none
  | 1 => some (some .groupI)
  | 2 => some (some .groupJ)
  | _ => none

/-- CBRK: the breaker and its configuration (R115). -/
def readCbrk (b : List Byte) : Option (BreakerId × BrkConfig) := do
  let brk ← index1 2 (field b 0 1)
  let enabled ← flagOf (field b 1 1)
  let trip ← indexOrNone 10 (field b 2 1)
  let close ← indexOrNone 10 (field b 3 1)
  let openTime ← within 0 1000 (field b 4 2)
  let closeTime ← within 0 1000 (field b 6 2)
  let out52a ← indexOrNone 8 (field b 8 1)
  let out52b ← indexOrNone 8 (field b 9 1)
  let group ← readGroup (field b 10 1)
  let bus ← flagOf (field b 11 1)
  let startsOpen ← flagOf (field b 12 1)
  some (brk, { enabled, trip, close, openTime, closeTime, out52a, out52b, group, line := !bus,
               startsOpen })

/-- `n` points of LCRV from offset `o`, the multiples rising strictly above `below` (R163). -/
def readPoints (b : List Byte) : Nat → Nat → Nat → Option (List Point)
  | 0, _, _ => some []
  | n + 1, o, below => do
    let m ← within (below + 1) 1000000 (field b o 4)
    let t ← within 0 600000000 (field b (o + 4) 4)
    let rest ← readPoints b n (o + 8) m
    some ({ m, t } :: rest)

/-- LCRV: the curve and its points, or none for UNLOAD (R163). -/
def readLcrv (b : List Byte) : Option (CurveId × Option (List Point)) := do
  let c ← index1 4 (field b 0 1)
  if field b 1 1 = 0 then some (c, none)
  else do
    let n ← within 2 16 (field b 1 1)
    let points ← readPoints b n 2 0
    some (c, some points)

/-- The characteristic of LGRD (R164). -/
def readCharacteristic (b : List Byte) : Option Characteristic :=
  match field b 7 1 with
  | 0 => do
    let tExp ← within 0 600000000 (field b 8 4)
    let mPick ← within 1 1000000 (field b 12 4)
    some (.definite tExp mPick)
  | 1 => (index1 4 (field b 16 1)).map .curve
  | _ => none

/-- LGRD: the record number and the record, or none for EMPTY (R164). -/
def readLgrd (b : List Byte) : Option (GradeId × Option Grade) := do
  let g ← index1 8 (field b 0 1)
  let filled ← flagOf (field b 1 1)
  if filled then do
    let timer ← index1 8 (field b 2 1)
    let lap ← within 1 4 (field b 3 1)
    let ref ← index0 10 (field b 4 1)
    let setting ← within 1 50000 (field b 5 2)
    let char ← readCharacteristic b
    let relTol ← within 0 500 (field b 17 2)
    let absTol ← within 0 1000000 (field b 19 4)
    some (g, some { timer, lap, ref, setting, char, relTol, absTol })
  else some (g, none)

/-- The arrangement of SMAP (R190). -/
def readArrangement (v : Nat) : Option Arrangement :=
  match v with
  | 0 => some .standard
  | 1 => some .swapped
  | 2 => some .parallel
  | 3 => some .disconnected
  | _ => none

/-- SMAP: the map (R64). -/
def readSmap (b : List Byte) : Option OutletMap := do
  let reversed ← flagOf (field b 0 1)
  let arrangement ← readArrangement (field b 1 1)
  some { reversed, arrangement }

/-- CINP: the input and its configuration (R68). -/
def readCinp (b : List Byte) : Option (InputId × InputConfig) := do
  let k ← index1 10 (field b 0 1)
  let wet ← flagOf (field b 1 1)
  let code ← within 0 15 (field b 2 1)
  let debounce ← within 0 250 (field b 3 1)
  let activeHigh ← flagOf (field b 4 1)
  if field b 5 1 = 1 then none
  else some (k, { wet, code, debounce, activeHigh, limit := field b 5 1 })

/-- The split level of FAST: two bytes, of which a request of LEN 5 carries only the high one; the
other is then `low`, a free value (R191, log 32). -/
def splitLevel (b : List Byte) (low : Byte) : Nat :=
  if b.length = 5 then field b 4 1 * 256 + low.toNat else field b 4 2

/-- LRNT: the input and the method (R78). -/
def readLrnt (b : List Byte) (low : Byte) : Option (InputId × Method) := do
  let k ← index1 10 (field b 0 1)
  match field b 1 1 with
  | 0 =>
    let lowCode ← within 0 15 (field b 2 1)
    let highCode ← within 0 15 (field b 3 1)
    let split ← within 5 300 (splitLevel b low)
    some (k, .fast lowCode highCode split)
  | 1 =>
    let upper ← within 0 15 (field b 2 1)
    let trim ← withinInt (-3) 3 (signedField b 3 1)
    some (k, .full upper trim)
  | _ => none

/-- ARM: the start source (R19). -/
def readArm (b : List Byte) : Option StartSource :=
  match field b 0 1 with
  | 0 => some .now
  | 1 => (within 1 60 (field b 1 1)).map .pps
  | 2 => do
    let k ← index1 10 (field b 1 1)
    let inactive ← flagOf (field b 2 1)
    some (.input k (if inactive then .inactive else .active))
  | _ => none

/-- NMSK and NACK: the notice set; bits 12 to 15 must be 0 (R182, R183). -/
def readNotices (b : List Byte) : Option (Bank Bool 12) :=
  (within 0 4095 (field b 0 2)).map (setOf 12)

/-- RCAL: the outlet (R188). -/
def readOutlet (b : List Byte) : Option Outlet := index0 10 (field b 0 1)

/-- The ranges of a calibration record (R187); for a voltage outlet C and W are 0 (R189). -/
def calInRange (o : Outlet) (r : CalRecord) : Bool :=
  (32768 ≤ r.gain && r.gain ≤ 131071) && (decide (-2048 ≤ r.offset) && decide (r.offset ≤ 2047)) &&
  (if o.val < 4 then r.rating == 0 && r.capacity == 0
   else (1 ≤ r.rating && r.rating ≤ 25000) && (1 ≤ r.capacity && r.capacity ≤ 1000000000000))

/-- WCAL: the outlet and its record (R189). -/
def readWcal (b : List Byte) : Option (Outlet × CalRecord) := do
  let o ← index0 10 (field b 0 1)
  let r : CalRecord := { gain := field b 1 4, offset := signedField b 5 2, rating := field b 7 2,
                         capacity := field b 9 6 }
  if calInRange o r then some (o, r) else none

/-- GINP: the input (R83). -/
def readInput (b : List Byte) : Option InputId := index1 10 (field b 0 1)

/-- The sections of a report (R160). -/
inductive Section where
  | header | trail | timers | grades | breakers | triggers | marks | inputs
deriving DecidableEq, Repr

/-- The section of RRPT (R191). -/
def readSection (v : Nat) : Option Section :=
  match v with
  | 0 => some .header
  | 1 => some .trail
  | 2 => some .timers
  | 3 => some .grades
  | 4 => some .breakers
  | 5 => some .triggers
  | 6 => some .marks
  | 7 => some .inputs
  | _ => none

/-! ## The length check (R178, R190, R191) -/

/-- LSTA's length: 96 + 6e, and 11 more with a ramp; a count above 4 or a ramp byte above 1 passes
and is refused by R10 (R190). -/
def lstaLengthOk (b : List Byte) : Bool :=
  if b.length < 96 then false
  else if field b 94 1 > 4 then true
  else if b.length < 96 + 6 * field b 94 1 then false
  else
    match field b (95 + 6 * field b 94 1) 1 with
    | 0 => b.length == 96 + 6 * field b 94 1
    | 1 => b.length == 107 + 6 * field b 94 1
    | _ => true

/-- LCRV's length: 2 + 8p; a point count above 16 passes and is refused by R163 (R191). -/
def lcrvLengthOk (b : List Byte) : Bool :=
  if b.length < 2 then false
  else if field b 1 1 > 16 then true
  else b.length == 2 + 8 * field b 1 1

/-- Whether LEN is a length the kind allows (R178, R191). LRNT: R191 states LEN 5 and lays out fields of 6
bytes; either length is taken (log 32). -/
def lengthOk (kind : Byte) (b : List Byte) : Bool :=
  match kind.toNat with
  | 0x04 | 0x05 => b.length == 2
  | 0x06 | 0x23 => b.length == 1
  | 0x07 => b.length == 15
  | 0x10 => lstaLengthOk b
  | 0x12 => b.length == 6
  | 0x13 => b.length == 8
  | 0x14 => b.length == 10
  | 0x15 => b.length == 13
  | 0x16 => lcrvLengthOk b
  | 0x17 => b.length == 23
  | 0x20 => b.length == 2
  | 0x21 => b.length == 6
  | 0x22 => b.length == 5 || b.length == 6
  | 0x30 => b.length == 3
  | 0x51 => b.length == 4
  | 0x52 => b.length == 3
  | _ => b.length == 0

end Sys2Proof.Machine
end

