-- ==== Sys2Proof/Machine/Flags.lean ====
section
/-! DEFINITION. The conditions the engine derives from its state: the reject sources, the reportable
set and ATN, usage, the silenced set, levels that are active, and the link mode. -/

namespace Sys2Proof.Machine

/-! ## Sequencer conditions -/

/-- A shot is in progress: RUNNING, STOPPING or TAIL (R73, R87). -/
def SeqState.inShot : SeqState → Bool
  | .running | .stopping | .tail => true
  | .empty | .ready | .armed => false

/-- Waveforms are produced: RUNNING or STOPPING (R46, R51). -/
def SeqState.driving : SeqState → Bool
  | .running | .stopping => true
  | .empty | .ready | .armed | .tail => false

/-- Editing messages are admitted: EMPTY or READY (R9). -/
def SeqState.editable : SeqState → Bool
  | .empty | .ready => true
  | .armed | .running | .stopping | .tail => false

/-- The loaded state records, ascending index. -/
def loadedRecords (q : Sequencer) : List (StateIdx × StateRecord) :=
  (List.finRange 24).filterMap fun i => (q.table.get i).map fun r => (i, r)

/-! ## Synthesizer conditions -/

/-- The silenced set (R54). -/
def Silence.silenced : Silence → Bool
  | .interrupted | .restoring | .stopped => true
  | .clear | .interruptPending | .stopPending => false

/-- The map connects outlets (R63, R66). -/
def OutletMap.connects (m : OutletMap) : Bool := m.arrangement != .disconnected

/-- An outlet is live: the map connects it and its contactor is closed (R63). -/
def Synth.live (y : Synth) (o : Outlet) : Bool := y.map.connects && y.contactors.get o

/-! ## Input conditions -/

/-- The qualified level is active: it equals the active level (R73). -/
def Input.isActive (i : Input) : Bool := i.qual == i.cfg.activeHigh

/-! ## Thermal usage (R142) -/

/-- Usage in per-mille: floor of H × 1,000 / W. -/
def usage (heat w : Nat) : Nat := heat * 1000 / w

/-- The outlet code of a current outlet (R191). -/
def outletOf (o : CurrentOutlet) : Outlet := ⟨o.val + 4, by omega⟩

/-- The continuous rating C of a current outlet. -/
def ratingOf (s : State) (o : CurrentOutlet) : Nat := (s.cal.working.get (outletOf o)).rating

/-- The thermal capacity W of a current outlet. -/
def capacityOf (s : State) (o : CurrentOutlet) : Nat := (s.cal.working.get (outletOf o)).capacity

/-- The usage of a current outlet (R142). -/
def usageOf (s : State) (o : CurrentOutlet) : Nat :=
  usage (s.sup.thermal.get o).heat (capacityOf s o)

/-! ## The reject set (R152, R153) -/

/-- Service mode: strap level 1 (R172). -/
def strapService : Strap → Bool
  | .level1 => true
  | .level0 | .levelR | .levelF => false

/-- The link rate in baud (R172). -/
def strapBaud : Strap → Nat
  | .level0 => 115200
  | .levelR => 921600
  | .levelF => 3000000
  | .level1 => 115200

/-- A channel of the J triple. -/
def isJ (c : Channel) : Bool := 7 ≤ c.val

/-- An arrival rule refers to a J channel (R153). -/
def Rule.usesJ (r : Rule) : Bool :=
  match r.mode with
  | .atAngle ref _ => isJ ref
  | .immediate => false
  | .atPps => false

/-- A ramp may raise the amplitude of a J channel (R153). -/
def Ramp.usesJ (r : Ramp) : Bool :=
  r.quantity == .amplitude && decide (0 < r.step) &&
    (List.finRange 10).any fun c => isJ c && r.chans.get c

/-- A state record uses the J triple (R153). -/
def StateRecord.usesJ (r : StateRecord) : Bool :=
  ((List.finRange 10).any fun c => isJ c && (r.chans.get c).amp != 0) ||
  (match r.ramp with
   | some p => p.usesJ
   | none => false) ||
  r.rule.usesJ || r.exceptions.any fun e => e.rule.usesJ

/-- MAP_MISMATCH (R153). -/
def mapMismatch (s : State) : Bool :=
  s.seq.commit && s.syn.map.arrangement == .parallel &&
    ((loadedRecords s.seq).any (fun p => p.2.usesJ) ||
     s.brk.items.any fun b => b.cfg.enabled && b.cfg.group == some .groupJ)

/-- NO_SYNC is active while the sync state is NO_SYNC or ACQUIRING (R137). -/
def Sync.lost : Sync → Bool
  | .noSync | .acquiring => true
  | .locked | .holdover => false

/-- A reject source is active (R152, R153). -/
def rejectActive (s : State) : RejectSource → Bool
  | .interlockOpen => s.sup.interlockOpen
  | .supplySag => s.sup.sag
  | .outletSettling => s.syn.settle.isSome
  | .mapDisconnected => !s.syn.map.connects
  | .mapMismatch => mapMismatch s
  | .learning => s.inp.items.any fun i => i.learn.isSome
  | .reportFull => decide (16 ≤ s.rep.held.length)
  | .noSync => s.tb.sync.lost
  | .outletHot o => (s.sup.thermal.get o).hot
  | .uncalibrated o =>
    !strapService s.link.strap && s.syn.map.connects && s.cal.status.get o == .defaulted

/-- Every reject source: at most 24 (R152). -/
def rejectSources : List RejectSource :=
  [.interlockOpen, .supplySag, .outletSettling, .mapDisconnected, .mapMismatch, .learning,
   .reportFull, .noSync] ++
  (List.finRange 6).map .outletHot ++ (List.finRange 10).map .uncalibrated

/-- The reject set (R152). -/
def rejectSet (s : State) : List RejectSource := rejectSources.filter (rejectActive s)

/-- A source is counted for a start source: NO_SYNC only for PPS(n) (R19, R137). -/
def counted (src : StartSource) (r : RejectSource) : Bool :=
  match src, r with
  | .now, .noSync => false
  | .input _ _, .noSync => false
  | _, _ => true

/-! ## Notices and ATN (R180, R181) -/

/-- The bit of a notice kind (R180). -/
def Notice.bit : Notice → Fin 12
  | .started => 0
  | .shotStarted => 1
  | .shotEnded => 2
  | .armCancelled => 3
  | .outletReady => 4
  | .learnDone => 5
  | .overloadWarn => 6
  | .overload => 7
  | .interlockOpen => 8
  | .syncChanged => 9
  | .chatter => 10
  | .linkError => 11

/-- A kind is reportable: pending and enabled (R181). -/
def Link.reportable (l : Link) (i : Fin 12) : Bool := l.noticeSet.get i && l.mask.get i

/-- The reportable set is not empty (R181). -/
def Link.anyReportable (l : Link) : Bool := (List.finRange 12).any l.reportable

/-- ATN is high while the reportable set is not empty, and low while RSTN is asserted (R172, R181). -/
def State.atn (s : State) : Bool := s.power == .up && s.link.anyReportable

end Sys2Proof.Machine
end

