-- ==== Sys2Proof/Machine/Synth.lean ====
section
/-! DEFINITION. The waveform synthesizer (03): derivations from live values, the outlet map, the
sample, zero crossings, and the silenced set. -/

namespace Sys2Proof.Machine

/-! ## Channel derivations (R44, R45, R46) -/

/-- The increment of a live frequency (R44). -/
def increment (freq : Nat) : Phase := BitVec.ofNat 32 (roundHalfUp (freq * 2 ^ 32) 10000000)

/-- The offset of an angle; also the target word of an arrival angle (R45, R27). -/
def offsetWord (angle : Nat) : Phase := BitVec.ofNat 32 (roundHalfUp (angle * 2 ^ 32) 36000)

/-- The phase word of a channel (R46). -/
def Chan.word (c : Chan) : Phase := c.psi + c.phi

/-- A channel takes the settings of a state record at an entry tick; with phase mode RESET its
accumulator becomes 0. No crossing is recognised at that tick (R28, R44, R45, R46, R53). -/
def Chan.load (reset : Bool) (v : ChanSetting) (c : Chan) : Chan :=
  { c with amp := v.amp, angle := v.angle, freq := v.freq, delta := increment v.freq,
           phi := offsetWord v.angle, psi := if reset then 0 else c.psi, fresh := true }

/-! ## Silence statuses (R54 to R59) -/

/-- An interrupt request with its request time (R55). -/
def Chan.interrupt (t : Time) (c : Chan) : Chan :=
  match c.status with
  | .clear => { c with status := .interruptPending, since := t }
  | .restoring => { c with status := .interrupted }
  | .interruptPending | .interrupted | .stopPending | .stopped => c

/-- A restore request with its request time (R56). -/
def Chan.restore (t : Time) (c : Chan) : Chan :=
  match c.status with
  | .interruptPending => { c with status := .clear }
  | .interrupted => { c with status := .restoring, since := t }
  | .clear | .restoring | .stopPending | .stopped => c

/-- A stop request at the stop-begin time (R57). DESIGN CHOICE, unsafe (log 43): a STOP_PENDING that replaces
an INTERRUPT_PENDING carries the stop-begin time, not the time of the older interrupt request. -/
def Chan.stopRequest (t : Time) (c : Chan) : Chan :=
  match c.status with
  | .clear | .interruptPending => { c with status := .stopPending, since := t }
  | .interrupted | .restoring => { c with status := .stopped }
  | .stopPending | .stopped => c

/-- A mute (R58). -/
def Chan.mute (c : Chan) : Chan := { c with status := .stopped }

/-- The forced cut (R57). -/
def Chan.cut (c : Chan) : Chan :=
  match c.status with
  | .stopPending => { c with status := .stopped }
  | .clear | .interruptPending | .interrupted | .restoring | .stopped => c

/-- The channel crosses zero at the tick whose sample is due (R53). -/
def Chan.crosses (c : Chan) : Bool := !c.fresh && (c.word.msb != c.prev.msb)

/-- The channel's live frequency or live amplitude is 0 (R27, R59). -/
def Chan.idle (c : Chan) : Bool := c.freq == 0 || c.amp == 0

/-- A waiting silencing takes effect at the tick: a crossing, or frequency or amplitude 0 (R59). -/
def Chan.yields (c : Chan) : Bool := c.idle || c.crosses

/-- Tick resolution: the tick must fall after the request time (R59). -/
def Chan.resolve (tick : Time) (c : Chan) : Chan :=
  if isAfter c.since tick then
    match c.status with
    | .interruptPending => if c.yields then { c with status := .interrupted } else c
    | .stopPending => if c.yields then { c with status := .stopped } else c
    | .restoring => { c with status := .clear }
    | .clear | .interrupted | .stopped => c
  else c

/-- The advance after the sample of a tick; the phase word is kept for the next tick (R46, R53). -/
def Chan.advance (c : Chan) : Chan :=
  { c with psi := c.psi + c.delta, prev := c.word, fresh := false }

/-! ## The outlet map (R61, R62) -/

/-- How much of its channel's amplitude an outlet takes (R47). -/
inductive Share where
  | whole | first | second
deriving DecidableEq, Repr

/-- The member (0 A, 1 B, 2 C) that reaches place `p` of a group (R61). -/
def member (reversed : Bool) (p : Nat) : Nat :=
  if reversed then (match p with
    | 0 => 0
    | 1 => 2
    | _ => 1)
  else p

/-- Member `m` of the I triple. -/
def channelI (m : Nat) : Channel := Fin.ofNat 10 (4 + m)

/-- Member `m` of the J triple. -/
def channelJ (m : Nat) : Channel := Fin.ofNat 10 (7 + m)

/-- The channel that the map routes to an outlet, with its share (R61, R62). -/
def routeOf (m : OutletMap) (o : Outlet) : Option (Channel × Share) :=
  if m.arrangement == .disconnected then none
  else if o.val < 3 then some (Fin.ofNat 10 (member m.reversed o.val), .whole)
  else if o.val = 3 then some (3, .whole)
  else
    let p := member m.reversed ((o.val - 4) % 3)
    if o.val < 7 then
      match m.arrangement with
      | .standard => some (channelI p, .whole)
      | .swapped => some (channelJ p, .whole)
      | .parallel => some (channelI p, .first)
      | .disconnected => none
    else
      match m.arrangement with
      | .standard => some (channelJ p, .whole)
      | .swapped => some (channelI p, .whole)
      | .parallel => some (channelI p, .second)
      | .disconnected => none

/-- The share of an amplitude: the two shares of PARALLEL sum to it (R47). -/
def Share.of (sh : Share) (a : Nat) : Nat :=
  match sh with
  | .whole => a
  | .first => a - a / 2
  | .second => a / 2

/-! ## Peak codes (R47, R48) -/

/-- The outlet amplitude before the rating clamp (R47). -/
def rawOutletAmp (y : Synth) (o : Outlet) : Nat :=
  match routeOf y.map o with
  | some (c, sh) => sh.of (y.chans.get c).amp
  | none => 0

/-- The outlet amplitude: a current outlet is clamped at its rating of 25,000 (R47). -/
def outletAmp (y : Synth) (o : Outlet) : Nat :=
  if 4 ≤ o.val then min (rawOutletAmp y o) 25000 else rawOutletAmp y o

/-- The peak code before its clamp (R48). -/
def rawPeak (gain : Nat) (amp : Nat) : Nat := roundHalfUp (amp * gain) 65536

/-- The outlet amplitudes and peak codes derived anew; with `running` an outlet to which a clamp is
applied joins the clamped-outlet set (R47, R48). -/
def deriveOutlets (running : Bool) (gains : Bank CalRecord 10) (y : Synth) : Synth :=
  { y with
    amps := .ofFn fun o => outletAmp y o
    peaks := .ofFn fun o => min (rawPeak (gains.get o).gain (outletAmp y o)) 32767
    clamped := .ofFn fun o =>
      y.clamped.get o ||
        (running && ((4 ≤ o.val && 25000 < rawOutletAmp y o) ||
          32767 < rawPeak (gains.get o).gain (outletAmp y o))) }

/-- The amplitude in effect that supervision charges (R49). -/
def amplitudeInEffect (driving : Bool) (y : Synth) (o : Outlet) : Nat :=
  match routeOf y.map o with
  | some (c, _) =>
    if driving && y.live o && !(y.chans.get c).status.silenced then y.amps.get o else 0
  | none => 0

/-! ## The sample (R50, R51) -/

/-- A code saturated to the range of the DAC (R50). -/
def saturate (v : Int) : Int := max (-32767) (min 32767 v)

/-- The table index of a phase word (R50). -/
def tableIndex (w : Phase) : Nat := w.toNat / 2 ^ 20

/-- The sample code from a phase word, a peak code and an offset (R50). -/
def sampleCode (w : Phase) (peak : Nat) (offset : Int) : Int :=
  saturate (roundHalfAway (sineTable (tableIndex w) * (peak : Int)) 32768 + offset)

/-- The code an outlet emits at a tick (R51). -/
def emitted (driving : Bool) (cal : Bank CalRecord 10) (y : Synth) (o : Outlet) : Int :=
  match routeOf y.map o with
  | some (c, _) =>
    if driving && y.live o && !(y.chans.get c).status.silenced then
      sampleCode (y.chans.get c).word (y.peaks.get o) (cal.get o).offset
    else 0
  | none => 0

/-! ## The synthesizer as a whole -/

/-- Every DAC stream at code 0. -/
def Synth.quiet (y : Synth) : Synth := { y with dac := .fill 10 0 }

/-- The mute of a hard stop: every channel STOPPED, every stream 0 at once (R58). -/
def Synth.mute (y : Synth) : Synth := { y with chans := y.chans.map Chan.mute, dac := .fill 10 0 }

/-- The stop request for every channel (R57). -/
def Synth.stopRequest (t : Time) (y : Synth) : Synth :=
  { y with chans := y.chans.map (Chan.stopRequest t) }

/-- Every channel is STOPPED (R33, R54). -/
def Synth.allStopped (y : Synth) : Bool := y.chans.items.all fun c => c.status == .stopped

/-- Some channel still waits for its silencing by a stop (R57). -/
def Synth.someStopPending (y : Synth) : Bool := y.chans.items.any fun c => c.status == .stopPending

/-- The contactors that a map uses are closed (R63, R65). -/
def Synth.closeContactors (y : Synth) : Synth := { y with contactors := .fill 10 y.map.connects }

/-- The interruption group of a breaker (R126): a channel is in it. -/
def inGroup (g : Option Group) (line : Bool) (c : Channel) : Bool :=
  (match g with
   | some .groupI => decide (4 ≤ c.val) && decide (c.val ≤ 6)
   | some .groupJ => decide (7 ≤ c.val)
   | none => false) ||
  (line && decide (c.val ≤ 2))

end Sys2Proof.Machine
end

