-- ==== Sys2Proof/Machine/Ops.lean ====
section
/-! DEFINITION. The operations that several commands share: notices and the transmit order (11), the
report being filled (10), binary output owners and levels (07), the end of an arm, soft and hard
stops and the entry of TAIL (02), and the order of work within one instant. -/

namespace Sys2Proof.Machine

/-! ## Engine time -/

/-- Engine time moves to `t`; it never goes back (R131, log 1). -/
def State.advance (s : State) (t : Time) : State := { s with now := laterOf s.now t }

/-! ## The transmit order and notices (R177, R180, R181) -/

/-- The NOTE frame formed from the pending set (R181). -/
def noteFrame (l : Link) : Frame := { kind := 0x40, tag := 0, body := setBytes 2 l.noticeSet }

/-- The first frame of the transmit order begins its transmission: a NOTE is formed then, or removed
when the reportable set is empty (R181). -/
def beginHead (l : Link) : List TxFrame → List TxFrame
  | [] => []
  | f :: rest =>
    if f.formed then f :: rest
    else if l.anyReportable then { f with formed := true, frame := noteFrame l } :: rest
    else beginHead l rest

/-- The transmitter takes up the first frame of its order (log 20). -/
def Link.transmit (l : Link) : Link := { l with order := beginHead l l.order }

/-- A frame joins the transmit order at its tail (R177). -/
def Link.join (l : Link) (f : TxFrame) : Link := { l with order := l.order ++ [f] }.transmit

/-- A NOTE whose body is not yet formed. -/
def waitingNote : TxFrame :=
  { what := .note, formed := false, frame := { kind := 0x40, tag := 0, body := [] } }

/-- A NOTE frame becomes due: it joins the transmit order when none stands there; while one is being
sent, a further NOTE is due once that one has left (R177, R181, log 12). -/
def Link.dueNote (l : Link) : Link :=
  match l.order.find? fun f => f.what == .note with
  | none => l.join waitingNote
  | some f => if f.formed then { l with noteDue := true } else l

/-- A notice kind is raised (R181). -/
def Link.raise (k : Notice) (l : Link) : Link :=
  if l.noticeSet.get k.bit then l
  else
    let l' := { l with noticeSet := l.noticeSet.set k.bit true }
    if l.mask.get k.bit then l'.dueNote else l'

/-- A block raises a notice kind (R181). -/
def State.raise (s : State) (k : Notice) : State := { s with link := s.link.raise k }

/-! ## The report being filled (R161) -/

/-- A change of the report in the FILLING slot; without such a slot nothing is written. -/
def State.write (s : State) (f : Report → Report) : State :=
  match s.rep.cur with
  | .filling => { s with rep := { s.rep with fill := f s.rep.fill } }
  | .noSlot | .reserved => s

/-- A change of the report flags (R159). -/
def State.flag (s : State) (f : Flags → Flags) : State :=
  s.write fun r => { r with flags := f r.flags }

/-- An entry appended to a list of a section, or counted as overflow when the list holds `cap`
(R160): the list after it. -/
def appendTo {α : Type} (cap : Nat) (l : List α) (a : α) : List α :=
  if l.length < cap then l ++ [a] else l

/-- The overflow count after an entry for a list that holds `l` (R160). -/
def overflowTo {α : Type} (cap : Nat) (l : List α) (lost : Nat) : Nat :=
  if l.length < cap then lost else bump lost

/-! ## Sequence records -/

/-- The record of an unloaded place: no committed sequence enters one (log 24). -/
def StateRecord.blank : StateRecord :=
  { tag := 0, chans := .fill 10 { amp := 0, angle := 0, freq := 0 }, duration := 0, next := none,
    pattern := .fill 8 false, rule := { mode := .immediate, reset := false }, exceptions := [],
    ramp := none }

/-- The record held at a state index. -/
def Sequencer.record (q : Sequencer) (i : StateIdx) : StateRecord := (q.table.get i).getD .blank

/-- The ramp of the state in force (R30). -/
def Sequencer.ramp (q : Sequencer) : Option Ramp := q.inForce.bind fun i => (q.record i).ramp

/-! ## Binary outputs (R124, R128, R129) -/

/-- The level at which an enabled breaker drives an output, when it claims it (R124). -/
def Breaker.drives (b : Breaker) (o : BoutId) : Option Bool :=
  if b.cfg.enabled then
    let mainClosed := b.st == .closed || b.st == .opening
    if b.cfg.out52a == some o then some mainClosed
    else if b.cfg.out52b == some o then some (!mainClosed)
    else none
  else none

/-- The level at which a breaker drives an output, when some breaker claims it. -/
def breakerDrive (s : State) (o : BoutId) : Option Bool :=
  ((s.brk.get 0).drives o).or ((s.brk.get 1).drives o)

/-- The output is named by the pattern of some loaded record (R128). -/
def patternNames (q : Sequencer) (o : BoutId) : Bool :=
  (loadedRecords q).any fun p => p.2.pattern.get o

/-- The pattern of the state in force names the output, while the shot runs or stops (R129). -/
def patternCloses (q : Sequencer) (o : BoutId) : Bool :=
  q.st.driving &&
    (match q.inForce with
     | some i => (q.record i).pattern.get o
     | none => false)

/-- Owner and level of an output, as R128 and R129 give them. -/
def outputNow (s : State) (o : BoutId) : Output :=
  match breakerDrive s o with
  | some level => { owner := .breaker, closed := level }
  | none =>
    if s.seq.commit && patternNames s.seq o then
      { owner := .sequence, closed := patternCloses s.seq o }
    else { owner := .nobody, closed := false }

/-- Every output takes its owner and level anew (R16, R28, R36, R117, R124, R129). -/
def State.refreshOutputs (s : State) : State := { s with out := .ofFn (outputNow s) }

/-! ## The end of an arm (R21, R37, R39) -/

/-- The shot context ends; the counter, the cancel reason and the grid of t0 stay (R18). -/
def Sequencer.endContext (q : Sequencer) : Sequencer :=
  { q with source := none, ppsCount := 0, startDue := none, inForce := none, pend := none,
           durationDue := none, rampSteps := 0, dwellDue := none, endReason := none, stopBegin := 0,
           further := [], tailDue := none }

/-- The current slot becomes FREE and loses its contents (R156). -/
def ReportStore.freeSlot (r : ReportStore) : ReportStore := { r with cur := .noSlot, fill := .empty }

/-- An arm ends without a start: the slot is freed and the sequencer returns to READY (R21, R39). -/
def State.endArm (s : State) (why : CancelReason) : State :=
  { s with seq := { s.seq.endContext with st := .ready, cancel := why }, rep := s.rep.freeSlot }

/-- A reject source has become active: it cancels an arm that counts it (R21). -/
def State.rejectRises (s : State) (r : RejectSource) : State :=
  match s.seq.st, s.seq.source with
  | .armed, some src =>
    if counted src r then (s.endArm (.source r)).raise .armCancelled else s
  | _, _ => s

/-! ## Stops (R32 to R36) -/

/-- The first stop cause is recorded, in the stop record and in the report (R35, R159). -/
def State.recordEnd (s : State) (r : EndReason) (t : Time) : State :=
  { s with seq := { s.seq with endReason := some r, stopBegin := t } }.write fun f =>
    { f with endReason := some r, stopBegin := relative s.seq.t0 t }

/-- A later hard cause joins the further-causes set, once (R35). -/
def State.addFurther (s : State) (c : HardCause) : State :=
  if s.seq.further.contains c then s
  else
    { s with seq := { s.seq with further := s.seq.further ++ [c] } }.write fun f =>
      { f with further := s.seq.further ++ [c] }

/-- A stop cancels the pending transition, the duration timer and the ramp (R32, R34). -/
def Sequencer.halt (q : Sequencer) : Sequencer :=
  { q with pend := none, durationDue := none, dwellDue := none }

/-- A soft stop begins in RUNNING (R32, R57). -/
def State.softStop (s : State) (r : EndReason) (t : Time) : State :=
  let s := s.recordEnd r t
  { s with seq := { s.seq.halt with st := .stopping }, syn := s.syn.stopRequest t }

/-- The entry of TAIL: sequence-owned outputs go to rest and the tail timer is set (R36). -/
def State.enterTail (s : State) (t : Time) : State :=
  { s with seq := { s.seq with st := .tail, tailDue := some (after t (s.seq.header.tail * 1000)) }
  }.refreshOutputs

/-- Every outlet is muted at once (R58). -/
def State.mute (s : State) : State := { s with syn := s.syn.mute }

/-- A hard cause is taken (R34, R35). -/
def State.hardStop (s : State) (c : HardCause) (t : Time) : State :=
  match s.seq.st with
  | .running =>
    let s := (s.recordEnd (.hard c) t).mute
    { s with seq := s.seq.halt }.enterTail t
  | .stopping => (s.addFurther c).mute.enterTail t
  | .tail => s.addFurther c
  | .empty | .ready | .armed => s

/-! ## Transitions requested (R25, R26, R27) -/

/-- The arrival rule of a target for a from-state: the exception that names it, or the default
(R6, R26). -/
def StateRecord.ruleFrom (r : StateRecord) (source : StateIdx) : Rule :=
  match r.exceptions.find? fun e => e.source == source with
  | some e => e.rule
  | none => r.rule

/-- The deadline of an arrival mode (R26). -/
def ArrivalMode.deadline (m : ArrivalMode) (request : Time) : Option Time :=
  match m with
  | .immediate => none
  | .atAngle _ _ => some (after request 1000000)
  | .atPps => some (after request 1000200)

/-- The reference channel has frequency or amplitude 0 at the request: no test is made (R27). -/
def ArrivalMode.untestable (m : ArrivalMode) (chans : Bank Chan 10) : Bool :=
  match m with
  | .atAngle ref _ => (chans.get ref).idle
  | .immediate => false
  | .atPps => false

/-- The pending transition that a request makes (R25, R26). -/
def State.pendingFor (s : State) (target source : StateIdx) (cause : Cause) (t : Time) : Pending :=
  let rule := (s.seq.record target).ruleFrom source
  { target, cause, source, request := t, rule, deadline := rule.mode.deadline t,
    untestable := rule.mode.untestable s.syn.chans, pulse := none }

/-- A request becomes the pending transition (R25). -/
def State.request (s : State) (target : StateIdx) (cause : Cause) (t : Time) : State :=
  { s with seq := { s.seq with
      pend := some (s.pendingFor target (s.seq.inForce.getD target) cause t) } }

/-! ## The order of work within one instant (log 8) -/

/-- Pieces of work are taken one at a time; each element of the schedule chooses which of those that
wait is next, the first when the schedule is used up. Work that a piece raises waits behind the
rest. `fuel` bounds the number of pieces. -/
def runWork {ω : Type} (act : ω → State → State × List ω) :
    Nat → List Nat → List ω → State → State
  | 0, _, _, s => s
  | _ + 1, _, [], s => s
  | fuel + 1, sched, w :: ws, s =>
    let i := sched.headD 0 % (w :: ws).length
    let r := act ((w :: ws).getD i w) s
    runWork act fuel sched.tail ((w :: ws).eraseIdx i ++ r.2) r.1

end Sys2Proof.Machine
end

