-- ==== Sys2Proof/Machine/Breakers.lean ====
section
/-! DEFINITION. The simulated breakers (07): commands, completions, the operation list and the
interruption of channels. -/

namespace Sys2Proof.Machine

/-- An entry for the operation list; the report's section takes it too (R125). -/
def appendOp (b : BreakerId) (e : OpEntry) (s : State) : State :=
  let br := s.brk.get b
  let ops := appendTo 16 br.ops e
  let lost := overflowTo 16 br.ops br.overflow
  { s with brk := s.brk.set b { br with ops, overflow := lost } }.write fun r =>
    { r with ops := r.ops.set b ops, opsOver := r.opsOver.set b lost }

/-- The channels of a breaker's interruption group take a change (R126). -/
def onGroup (b : BreakerId) (f : Chan → Chan) (s : State) : State :=
  let cfg := (s.brk.get b).cfg
  { s with syn := { s.syn with
      chans := s.syn.chans.mapIdx fun c x => if inGroup cfg.group cfg.line c then f x else x } }

/-- A change of a breaker's state and operation. -/
def setBreaker (b : BreakerId) (st : BrkState) (op : Option Operation) (s : State) : State :=
  { s with brk := s.brk.modify b fun br => { br with st, op } }

/-- The completion of an open, steps 1 to 4 (R121). -/
def completeOpen (b : BreakerId) (op : Operation) (s : State) : State :=
  onGroup b (Chan.interrupt op.due) <| State.refreshOutputs <|
    appendOp b { kind := .opened, command := relative s.seq.t0 op.command,
                 completion := relative s.seq.t0 op.due, cause := op.cause, refusal := .accepted,
                 replaced := op.replaced.map (relative s.seq.t0) } <|
    setBreaker b .opened none s

/-- The completion of a close, steps 1 to 4 (R122). -/
def completeClose (b : BreakerId) (op : Operation) (s : State) : State :=
  onGroup b (Chan.restore op.due) <| State.refreshOutputs <|
    appendOp b { kind := .closed, command := relative s.seq.t0 op.command,
                 completion := relative s.seq.t0 op.due, cause := op.cause, refusal := .accepted,
                 replaced := none } <|
    setBreaker b .closed none s

/-- A refused command: an entry of the operation list (R119, R120, R125). -/
def refuseOp (b : BreakerId) (kind : OpKind) (why : OpRefusal) (t : Time) (cause : CmdCause)
    (s : State) : State :=
  appendOp b { kind, command := relative s.seq.t0 t, completion := relative s.seq.t0 t, cause,
               refusal := why, replaced := none } s

/-- An open operation is begun; with an open time of 0 it completes as part of the command (R118,
R119): the state, and the event it raises. -/
def beginOpen (b : BreakerId) (t : Time) (cause : CmdCause) (replaced : Option Time) (s : State) :
    State × List Event :=
  let time := (s.brk.get b).cfg.openTime
  let op : Operation :=
    { opens := true, command := t, cause, due := after t (time * 1000), replaced }
  let s := (setBreaker b .opening (some op) s).refreshOutputs
  if time = 0 then (completeOpen b op s, [{ kind := .breakerOpen b, time := t, routed := t }])
  else (s, [])

/-- A close operation is begun; with a close time of 0 it completes as part of the command (R118,
R120): the state, and the event it raises. -/
def beginClose (b : BreakerId) (t : Time) (cause : CmdCause) (s : State) : State × List Event :=
  let time := (s.brk.get b).cfg.closeTime
  let op : Operation :=
    { opens := false, command := t, cause, due := after t (time * 1000), replaced := none }
  let s := (setBreaker b .closing (some op) s).refreshOutputs
  if time = 0 then (completeClose b op s, [{ kind := .breakerClosed b, time := t, routed := t }])
  else (s, [])

/-- A trip command (R119). -/
def tripBreaker (b : BreakerId) (t : Time) (cause : CmdCause) (s : State) : State × List Event :=
  let br := s.brk.get b
  if !(s.seq.st.inShot && br.cfg.enabled) then (s, [])
  else
    match br.st with
    | .closed => beginOpen b t cause none s
    | .closing => beginOpen b t cause (br.op.map (·.command)) s
    | .opening => (refuseOp b .tripRefused (.state .opening) t cause s, [])
    | .opened => (refuseOp b .tripRefused (.state .opened) t cause s, [])

/-- The trip input's qualified level is active (R120). -/
def tripStands (s : State) (b : BreakerId) : Bool :=
  match (s.brk.get b).cfg.trip with
  | some k => (s.inp.get k).isActive
  | none => false

/-- A close command (R120). -/
def closeBreaker (b : BreakerId) (t : Time) (cause : CmdCause) (s : State) : State × List Event :=
  let br := s.brk.get b
  if !(s.seq.st.inShot && br.cfg.enabled) then (s, [])
  else
    match br.st with
    | .opened =>
      if tripStands s b then (refuseOp b .closeRefused .tripFree t cause s, [])
      else beginClose b t cause s
    | .closed => (refuseOp b .closeRefused (.state .closed) t cause s, [])
    | .opening => (refuseOp b .closeRefused (.state .opening) t cause s, [])
    | .closing => (refuseOp b .closeRefused (.state .closing) t cause s, [])

/-- The initial state of a breaker (R114). -/
def BrkConfig.initialState (c : BrkConfig) : BrkState := if c.startsOpen then .opened else .closed

/-- An enabled breaker takes its initial state, its operation dropped (R37, R117, R127). -/
def Breaker.settle (b : Breaker) : Breaker :=
  { b with st := if b.cfg.enabled then b.cfg.initialState else .closed, op := none }

/-- A breaker at the start of a shot: initial state, empty list, overflow 0 (R22, R127). -/
def Breaker.begin (b : Breaker) : Breaker := { b.settle with ops := [], overflow := 0 }

/-- The channel belongs to the group of an enabled breaker whose initial state is OPEN (R127). -/
def startsInterrupted (brk : Bank Breaker 2) (c : Channel) : Bool :=
  brk.items.any fun b =>
    b.cfg.enabled && b.cfg.startsOpen && inGroup b.cfg.group b.cfg.line c

end Sys2Proof.Machine
end

