-- ==== Sys2Proof/Machine/Timers.lean ====
section
/-! DEFINITION. The measurement timers (06): starts, stops, the edges of WIDTH and COUNT, timeouts
and the results of a shot. -/

namespace Sys2Proof.Machine

/-! ## Laps (R105) -/

/-- A lap from a start to a stop: never negative, EARLY when the stop lies before the start (R105). -/
def lapBetween (start stop : Time) : Lap :=
  if atOrAfter start stop then
    { stop, value := min (elapsed start stop) Config.reportLimit, early := false }
  else { stop, value := 0, early := true }

/-- A lap inserted by its stop time, behind those whose stop time is earlier or equal (R105). -/
def insertLap (l : Lap) : List Lap → List Lap
  | [] => [l]
  | x :: xs => if atOrAfter x.stop l.stop then x :: insertLap l xs else l :: x :: xs

/-- A lap is recorded; a full list makes the timer STOPPED (R105, R107, R110). -/
def Timer.record (m : Timer) (l : Lap) : Timer :=
  let laps := insertLap l m.laps
  if m.cfg.limit ≤ laps.length then { m with laps, run := .stopped, due := none }
  else { m with laps }

/-! ## Starts (R102, R103, R104, R108) -/

/-- The input that a WIDTH or COUNT timer takes its edges from. -/
def TimerMode.input : TimerMode → Option InputId
  | .interval => none
  | .width k => some k
  | .count k => some k

/-- The examination of the input at a start: the last active edge, when the input is active and that
edge lies at or after the start time (R108, R110). -/
def Timer.edgeAtStart (m : Timer) (inputs : Bank Input 10) (start : Time) : Option Time :=
  match m.cfg.mode.input, m.lastActive with
  | some k, some e => if (inputs.get k).isActive && atOrAfter start e then some e else none
  | _, _ => none

/-- An IDLE timer starts (R103, R108). -/
def Timer.begin (m : Timer) (inputs : Bank Input 10) (amps : Bank Nat 10) (start : Time) : Timer :=
  let m := { m with run := .running, start := some start, amps := some amps,
                    due := if m.cfg.timeout = 0 then none
                           else some (after start (m.cfg.timeout * 1000)) }
  match m.edgeAtStart inputs start, m.cfg.mode with
  | some e, .width _ => { m with pulse := some e, count := bump m.count }
  | some _, .count _ => { m with count := bump m.count }
  | some _, .interval => m
  | none, _ => m

/-- A timer is timed out: its open pulse is discarded (R104, R112). -/
def Timer.expire (m : Timer) : Timer := { m with run := .timedOut, due := none, pulse := none }

/-- The live amplitudes of the ten channels (R103). -/
def liveAmps (s : State) : Bank Nat 10 := s.syn.chans.map Chan.amp

/-- A start reaches a timer with the time carried, at the routing time (R103, R104): the state, and
the event it chains. -/
def startTimer (m : TimerId) (carried routed : Time) (s : State) : State × List Event :=
  let tm := s.tmr.get m
  if !tm.cfg.enabled then (s, [])
  else
    match tm.run with
    | .idle =>
      let tm := tm.begin s.inp (liveAmps s) carried
      match tm.due with
      | some d =>
        if atOrAfter d routed then
          ({ s with tmr := s.tmr.set m tm.expire },
           [{ kind := .timerTimeout m, time := d, routed }])
        else ({ s with tmr := s.tmr.set m tm }, [])
      | none => ({ s with tmr := s.tmr.set m tm }, [])
    | .running | .stopped | .timedOut =>
      ({ s with tmr := s.tmr.set m { tm with extra := bump tm.extra } }, [])

/-! ## Stops (R105, R106, R109, R110) -/

/-- A stop reaches a timer with the time carried, at the routing time: the state, and the event it
chains. -/
def stopTimer (m : TimerId) (carried routed : Time) (s : State) : State × List Event :=
  let tm := s.tmr.get m
  match tm.run, tm.cfg.mode with
  | .running, .width _ =>
    ({ s with tmr := s.tmr.set m { tm with run := .stopped, due := none, pulse := none } }, [])
  | .running, .interval | .running, .count _ =>
    ({ s with tmr := s.tmr.set m (tm.record (lapBetween (tm.start.getD carried) carried)) },
     [{ kind := .timerStop m, time := carried, routed }])
  | .idle, _ | .stopped, _ | .timedOut, _ =>
    ({ s with tmr := s.tmr.set m { tm with late := bump tm.late } }, [])

/-! ## Edges (R107, R110) -/

/-- An active edge of the timer's input (R107, R110). -/
def Timer.activeEdge (m : Timer) (e : Time) : Timer :=
  let m := { m with lastActive := some e }
  match m.run, m.cfg.mode with
  | .running, .width _ =>
    match m.pulse with
    | none => { m with pulse := some e, count := bump m.count }
    | some _ => m
  | .running, .count _ => { m with count := bump m.count }
  | _, _ => m

/-- A qualified edge of input `k` reaches a timer: the state, and the original events it raises
(R107, R110). An inactive edge closes any open pulse, as R107 says; that it does so also at the instant of
the start that opened the pulse, where R108 says that it closes nothing, is the model's choice (log 40). -/
def timerEdge (m : TimerId) (k : InputId) (edge : Edge) (e routed : Time) (s : State) :
    State × List Event :=
  let tm := s.tmr.get m
  if !(tm.cfg.enabled && tm.cfg.mode.input == some k) then (s, [])
  else
    match edge with
    | .active => ({ s with tmr := s.tmr.set m (tm.activeEdge e) }, [])
    | .inactive =>
      match tm.run, tm.cfg.mode, tm.pulse with
      | .running, .width _, some opened =>
        ({ s with tmr := s.tmr.set m ({ tm with pulse := none }.record (lapBetween opened e)) },
         [{ kind := .timerStop m, time := e, routed }])
      | _, _, _ => (s, [])

/-! ## The start of a shot and its results (R102, R113) -/

/-- The per-shot state of a timer is cleared (R102). -/
def Timer.clear (m : Timer) : Timer :=
  { m with run := .idle, start := none, amps := none, due := none, laps := [], pulse := none,
           count := 0, extra := 0, late := 0, lastActive := none }

/-- Every enabled timer with auto-start is started at t0 (R102). -/
def autoStart (t0 : Time) (s : State) : State :=
  { s with tmr := s.tmr.map fun m =>
      if m.cfg.enabled && m.cfg.auto then m.begin s.inp (liveAmps s) t0 else m }

/-- The outcome of a timer at finalization (R113). -/
def Timer.outcome (m : Timer) : TimerOutcome :=
  if !m.cfg.enabled then .disabled
  else
    match m.run with
    | .idle => .notStarted
    | .running => .opened
    | .stopped => .stopped
    | .timedOut => .timedOut

/-- The result of a timer (R113). -/
def Timer.result (t0 : Time) (m : Timer) : TimerResult :=
  { mode := m.cfg.mode, start := m.start.map (relative t0), outcome := m.outcome, laps := m.laps,
    count := m.count, extra := m.extra, late := m.late }

/-- A timer is closed at finalization: an open pulse is discarded (R113). -/
def Timer.close (m : Timer) : Timer := { m with pulse := none }

/-- Step 1 of finalization: the timers are closed and hand on their results (R37, R113). -/
def closeTimers (s : State) : State :=
  { s with tmr := s.tmr.map Timer.close }.write fun r =>
    { r with timers := (s.tmr.map (Timer.result s.seq.t0)).items }

end Sys2Proof.Machine
end

