-- ==== Sys2Proof/Machine/Triggers.lean ====
section
/-! DEFINITION. The trigger table (05): matching, firing, actions, the trigger log, marks, and the
routing of an event with its chain. -/

namespace Sys2Proof.Machine

/-! ## Matching (R88, R89) -/

/-- The state in force for an event (R88). DESIGN CHOICE, unsafe (log 44): for an event chained to
STATE_EXIT(s) it is the state in force when that event is routed, the entered state, not s. -/
def stateFor (q : Sequencer) (e : EventKind) : Option StateIdx :=
  match e with
  | .stateExit i => some i
  | .stateEnter i => some i
  | _ => q.inForce

/-- An entry matches an event (R88). -/
def TrigEntry.accepts (t : TrigEntry) (q : Sequencer) (e : Event) : Bool :=
  t.enabled && t.event == e.kind &&
    (match t.filter with
     | none => true
     | some f => stateFor q e.kind == some f)

/-! ## Marks and the log (R90, R95) -/

/-- The first channel of a ramp's channel set (R30). -/
def Ramp.firstChannel (r : Ramp) : Option Channel := (List.finRange 10).find? fun c => r.chans.get c

/-- The live value of a channel for a quantity. -/
def Chan.quantity (c : Chan) (q : Quantity) : Nat :=
  match q with
  | .amplitude => c.amp
  | .phase => c.angle
  | .frequency => c.freq

/-- The live value a mark records: none without a ramp (R30, R95). -/
def markValue (s : State) : Option Nat :=
  s.seq.ramp.bind fun r => r.firstChannel.map fun c => (s.syn.chans.get c).quantity r.quantity

/-- A MARK is taken (R95). -/
def takeMark (e : Event) (s : State) : State :=
  let k : Mark := { time := relative s.seq.t0 e.routed,
                    state := ((stateFor s.seq e.kind).orElse fun _ => s.seq.inForce).getD 0,
                    step := s.seq.rampSteps, live := markValue s }
  s.write fun r =>
    { r with marks := appendTo 16 r.marks k, marksOver := overflowTo 16 r.marks r.marksOver }

/-- A firing is logged (R90). -/
def logFiring (i : TrigIdx) (e : Event) (superseded : Bool) (s : State) : State :=
  let k : LogEntry := { entry := i, time := relative s.seq.t0 e.time, superseded }
  s.write fun r =>
    { r with log := appendTo 64 r.log k, logOver := overflowTo 64 r.log r.logOver }

/-! ## Actions (R91 to R95) -/

/-- What an action leaves: the state, whether the firing is superseded, whether a GOTO or END_SHOT
of this event has been offered, and the events chained. -/
structure Fired where
  state : State
  superseded : Bool
  offered : Bool
  chained : List Event

/-- A GOTO firing; `offered` says that an earlier GOTO or END_SHOT of the same event was offered
(R25, R92). -/
def fireGoto (i : TrigIdx) (target : StateIdx) (e : Event) (offered : Bool) (s : State) : Fired :=
  if offered then { state := s, superseded := true, offered := true, chained := [] }
  else
    match s.seq.st, s.seq.pend with
    | .running, none =>
      { state := s.request target (.trigger i) e.routed, superseded := false, offered := true,
        chained := [] }
    | _, _ => { state := s, superseded := true, offered := true, chained := [] }

/-- An END_SHOT firing (R32, R92). -/
def fireEndShot (e : Event) (offered : Bool) (s : State) : Fired :=
  if offered then { state := s, superseded := true, offered := true, chained := [] }
  else
    match s.seq.st with
    | .running =>
      { state := s.softStop .endShot e.routed, superseded := false, offered := true, chained := [] }
    | _ => { state := s, superseded := true, offered := true, chained := [] }

/-- An action that is never superseded (R93, R94, R95). -/
def fireOther (r : State × List Event) (offered : Bool) : Fired :=
  { state := r.1, superseded := false, offered, chained := r.2 }

/-- The action of a firing entry is carried out (R91). -/
def fireAction (i : TrigIdx) (a : Action) (e : Event) (offered : Bool) (s : State) : Fired :=
  match a with
  | .goto target => fireGoto i target e offered s
  | .endShot => fireEndShot e offered s
  | .startTimer m => fireOther (startTimer m e.time e.routed s) offered
  | .stopTimer m => fireOther (stopTimer m e.time e.routed s) offered
  | .trip b => fireOther (tripBreaker b e.routed (.trigger i) s) offered
  | .close b => fireOther (closeBreaker b e.routed (.trigger i) s) offered
  | .mark => fireOther (takeMark e s, []) offered

/-! ## Routing one event (R88 to R92) -/

/-- The examination of one entry under way: the state, whether a GOTO or END_SHOT of the event has
been offered, and the events chained so far, in the order they were raised. -/
structure Routing where
  state : State
  offered : Bool
  chained : List Event

/-- One entry is examined; its counter counts the match, and its action is carried out when it
fires (R88, R89, R90). -/
def examine (e : Event) (r : Routing) (i : TrigIdx) : Routing :=
  let slot := r.state.trg.get i
  match slot.entry with
  | none => r
  | some t =>
    if t.accepts r.state.seq e then
      let n := bump slot.count
      let s := { r.state with trg := r.state.trg.set i { slot with count := n } }
      if t.occurrence = 0 ∨ t.occurrence = n then
        let f := fireAction i t.action e r.offered s
        { state := logFiring i e f.superseded f.state, offered := f.offered,
          chained := r.chained ++ f.chained }
      else { r with state := s }
    else r

/-- One event is routed through the 32 entries in index order: the state, and the events chained
(R88, R96). -/
def routeOne (e : Event) (s : State) : State × List Event :=
  let r := (List.finRange 32).foldl (examine e) { state := s, offered := false, chained := [] }
  (r.state, r.chained)

/-! ## Chains (R96, R97) -/

/-- The events of one depth are routed in order; those they chain make the next depth (R96). -/
def routeLevel : List Event → State → State × List Event
  | [], s => (s, [])
  | e :: es, s =>
    let r := routeOne e s
    let rest := routeLevel es r.1
    (rest.1, r.2 ++ rest.2)

/-- The depths of a chain: `left` more depths are routed, and events beyond set CHAIN_LIMIT (R97). -/
def routeDepths : Nat → List Event → State → State
  | _, [], s => s
  | 0, _ :: _, s => s.flag fun f => { f with chainLimit := true }
  | left + 1, e :: es, s =>
    let r := routeLevel (e :: es) s
    routeDepths left r.2 r.1

/-- An original event is offered to the trigger table: it is routed with its whole chain while a
shot is in progress, and not otherwise (R87, R96, R97). -/
def route (e : Event) (s : State) : State :=
  if s.seq.st.inShot then routeDepths 4 [e] s else s

end Sys2Proof.Machine
end

