-- ==== Sys2Proof/Machine/Inputs.lean ====
section
/-! DEFINITION. The binary inputs (04): levels and thresholds, debounce, qualified edges, chatter and
threshold learning. -/

namespace Sys2Proof.Machine

/-! ## Levels (R68, R69, R70) -/

/-- The pick-up levels of the threshold codes, in volts (R69). -/
def pickUps : List Nat := [3, 6, 9, 12, 16, 20, 24, 32, 40, 50, 65, 80, 100, 130, 160, 200]

/-- The pick-up level of a code (R69). -/
def pickUp (code : Nat) : Nat := pickUps.getD code 200

/-- The release level of a code (R69). -/
def release (code : Nat) : Nat := pickUp code * 4 / 5

/-- The raw level that the front-end's comparator gives: between the thresholds it holds (R69, R70). -/
def Input.compare (i : Input) : Bool :=
  if i.cfg.wet then
    if pickUp i.cfg.code ≤ i.term.volts then true
    else if i.term.volts < release i.cfg.code then false
    else i.raw
  else i.term.closed

/-- The raw level taken anew for a configuration (R68). -/
def rawAnew (c : InputConfig) (t : Terminal) : Bool :=
  if c.wet then decide (pickUp c.code ≤ t.volts) else t.closed

/-- An input derived afresh for a configuration: no window, NORMAL, counts of the window 0, the
qualified level equal to the raw level (R68). -/
def Input.derive (c : InputConfig) (i : Input) : Input :=
  { i with cfg := c, raw := rawAnew c i.term, qual := rawAnew c i.term, window := none,
           chatter := false, count := 0, early := 0 }

/-! ## Qualified edges (R71, R73) -/

/-- The pieces of work that a qualified edge or a chatter boundary sets (R73, R87, log 8). -/
inductive Work where
  /-- The trigger table routes an original event. -/
  | route (e : Event)
  /-- A timer takes an edge of its input. -/
  | timer (m : TimerId) (k : InputId) (edge : Edge) (time routed : Time)
  /-- A breaker takes a trip command from its input. -/
  | trip (b : BreakerId) (k : InputId) (t : Time)
  /-- A breaker takes a close command from its input. -/
  | close (b : BreakerId) (k : InputId) (t : Time)
  /-- An input leaves CHATTER at a window's end. -/
  | exit (k : InputId) (t : Time)
deriving DecidableEq, Repr

/-- The commands that an active edge of input `k` gives a breaker (R118). -/
def breakerWork (brk : Bank Breaker 2) (k : InputId) (t : Time) (b : BreakerId) : List Work :=
  let c := (brk.get b).cfg
  (if c.enabled && c.trip == some k then [.trip b k t] else []) ++
  (if c.enabled && c.close == some k then [.close b k t] else [])

/-- What a qualified edge of input `k` sets to do while a shot is in progress (R73). -/
def edgeWork (s : State) (k : InputId) (edge : Edge) (time routed : Time) : List Work :=
  let timers := (List.finRange 8).filterMap fun m =>
    if (s.tmr.get m).cfg.enabled && (s.tmr.get m).cfg.mode.input == some k then
      some (.timer m k edge time routed)
    else none
  match edge with
  | .active =>
    .route { kind := .inputActive k, time, routed } ::
      (breakerWork s.brk k routed 0 ++ breakerWork s.brk k routed 1 ++ timers)
  | .inactive => .route { kind := .inputInactive k, time, routed } :: timers

/-- The sequencer takes, while ARMED for the edge, its first one as the start (R20). -/
def armedEdge (k : InputId) (edge : Edge) (routed : Time) (s : State) : State :=
  match s.seq.st, s.seq.source, s.seq.startDue with
  | .armed, some (.input j e), none =>
    if j = k ∧ e = edge then { s with seq := { s.seq with startDue := some routed } } else s
  | _, _, _ => s

/-- A qualified edge is produced: the qualified level takes the raw level, and the edge is handed on
(R71, R73, R74): the state, and the work it sets. -/
def qualify (k : InputId) (time routed : Time) (s : State) : State × List Work :=
  let i := s.inp.get k
  let inShot := s.seq.st.inShot
  let i := { i with qual := i.raw, edges := if inShot then bump i.edges else i.edges }
  let edge : Edge := if i.isActive then .active else .inactive
  let s := { s with inp := s.inp.set k i }
  if inShot then (s, edgeWork s k edge time routed) else (armedEdge k edge routed s, [])

/-- An input in CHATTER leaves it; an edge is produced when its raw level differs from the held level
(R76). -/
def leaveChatter (k : InputId) (t : Time) (s : State) : State × List Work :=
  let i := s.inp.get k
  if i.chatter then
    let s := { s with inp := s.inp.set k { i with chatter := false } }
    if i.raw != i.held then qualify k t t s else (s, [])
  else (s, [])

/-- One piece of work is carried out: the state, and the work it raises. -/
def Work.act (w : Work) (s : State) : State × List Work :=
  match w with
  | .route e => (Sys2Proof.Machine.route e s, [])
  | .timer m k edge time routed =>
    let r := timerEdge m k edge time routed s
    (r.1, r.2.map .route)
  | .trip b k t =>
    let r := tripBreaker b t (.input k) s
    (r.1, r.2.map .route)
  | .close b k t =>
    let r := closeBreaker b t (.input k) s
    (r.1, r.2.map .route)
  | .exit k t => leaveChatter k t s

/-- The pieces of work of one instant, in the order of the schedule. The bound is above the work that
ten inputs can set: 10 x (1 + 13 + 13). -/
def runWorks (sched : List Nat) (ws : List Work) (s : State) : State :=
  runWork Work.act 400 sched ws s

/-- DEBOUNCE_WINDOW_END (R71). -/
def debounceEnd (k : InputId) (sched : List Nat) (s : State) : State :=
  match (s.inp.get k).window with
  | none => s
  | some w =>
    let s := s.advance w.ends
    let s := { s with inp := s.inp.modify k fun i => { i with window := none } }
    let r := qualify k w.opened w.ends s
    runWorks sched r.2 r.1

/-! ## Raw transitions (R70 to R72, R74, R75) -/

/-- Bounces counted while a shot is in progress (R74). -/
def Input.bounce (inShot : Bool) (n : Nat) (i : Input) : Input :=
  if inShot then { i with bounces := min (i.bounces + n) 65535 } else i

/-- The bounces of a window that closes without an edge: its opening transition, when that was taken
in the shot (R74). -/
def openingBounces (w : Option Window) : Nat :=
  match w with
  | some w => if w.counted then 1 else 0
  | none => 0

/-- The transition counted in its chatter window: the window whose boundary is due, or the one that
begins there (R75, R76). -/
def Input.tally (next : Bool) (i : Input) : Input :=
  if next then { i with early := bump i.early } else { i with count := bump i.count }

/-- The count of the chatter window that the transition belongs to. -/
def Input.windowCount (next : Bool) (i : Input) : Nat := if next then i.early else i.count

/-- The transition makes the count exceed the chatter limit (R75). -/
def Input.exceeds (next : Bool) (i : Input) : Bool :=
  decide (2 ≤ i.cfg.limit) && decide (i.cfg.limit < i.windowCount next)

/-- An input enters CHATTER at a transition (R75, R77). -/
def Input.enterChatter (inShot : Bool) (i : Input) : Input :=
  let i := i.bounce inShot (openingBounces i.window + 1)
  { i with chatter := true, held := i.qual, window := none,
           periods := if inShot then bump i.periods else i.periods,
           inChatter := i.inChatter || inShot }

/-- A raw transition of a NORMAL input opens a window, or closes the one open (R71, R72). -/
def Input.debounce (inShot : Bool) (r : Time) (i : Input) : Input :=
  match i.window with
  | some w => { i.bounce inShot (openingBounces (some w) + 1) with window := none }
  | none =>
    { i with window := some { opened := r, ends := after r (i.cfg.debounce * 100),
                              counted := inShot } }

/-- A raw transition at `r`: it reverses the raw level and is offered to the chatter count and then
to the debounce (R70). -/
def Input.transition (inShot next : Bool) (r : Time) (i : Input) : Input :=
  let i := { i with raw := !i.raw }.tally next
  if i.chatter then i.bounce inShot 1
  else if i.exceeds next then i.enterChatter inShot
  else i.debounce inShot r

/-- A raw transition of input `k` at `r`; the notice CHATTER is raised at every entry (R70, R75,
R77). -/
def rawTransition (k : InputId) (r : Time) (s : State) : State :=
  let i := s.inp.get k
  let i' := i.transition s.seq.st.inShot (atOrAfter s.clock.nextChatter r) r
  let s := { s with inp := s.inp.set k i' }
  if i'.chatter && !i.chatter then s.raise .chatter else s

/-- RAW_TRANSITION: the terminals of input `k` stand at `term`; a change of the raw level is a raw
transition (R69, R70). -/
def terminalChange (k : InputId) (term : Terminal) (s : State) : State :=
  let i := { s.inp.get k with term }
  let s := { s with inp := s.inp.set k i }
  if i.compare != i.raw then rawTransition k s.now s else s

/-- An input at a chatter window boundary: the count of the window that begins (R75). -/
def Input.nextWindow (i : Input) : Input := { i with count := i.early, early := 0 }

/-- The inputs that leave CHATTER at a boundary (R76). -/
def leavers (inp : Bank Input 10) : List InputId :=
  (List.finRange 10).filter fun k =>
    (inp.get k).chatter && decide ((inp.get k).count ≤ (inp.get k).cfg.limit / 2)

/-- CHATTER_WINDOW_BOUNDARY (R75, R76). -/
def chatterBoundary (sched : List Nat) (s : State) : State :=
  let t := periodicDue 1000000 s.clock.nextChatter s.now
  let works := (leavers s.inp).map fun k => Work.exit k t
  let s := s.advance t
  let s := { s with inp := s.inp.map Input.nextWindow,
                    clock := { s.clock with nextChatter := nextMultiple 1000000 t } }
  runWorks sched works s

/-! ## Learning (R79 to R81) -/

/-- A level reading, 0 to 300 V (R70); it feeds a learning until 100 readings are taken (R79). -/
def Input.read (volts : Nat) (i : Input) : Input :=
  let v := min volts 300
  { i with term := { i.term with volts }, reading := v,
           learn := i.learn.map fun l =>
             if l.readings < 100 then { l with readings := l.readings + 1, sum := l.sum + v } else l }

/-- The highest code from 0 to `upper` whose pick-up does not exceed the limit, or 0 (R80). -/
def highestCode (limit : Nat) : Nat → Nat
  | 0 => 0
  | n + 1 => if pickUp (n + 1) ≤ limit then n + 1 else highestCode limit n

/-- The code that a method computes from V_on (R80). -/
def Method.code (m : Method) (vOn : Nat) : Nat :=
  match m with
  | .fast low high split => if vOn < split then low else high
  | .full upper trim =>
    (max 0 (min (upper : Int) (highestCode (vOn * 7 / 10) upper + trim))).toNat

/-- The method is FULL. -/
def Method.isFull : Method → Bool
  | .fast _ _ _ => false
  | .full _ _ => true

/-- The outcome of a learning on an input: the input with its code, its record, and IDLE (R80,
R81). -/
def Input.learned (l : Learning) (i : Input) : Input :=
  let vOn := l.sum / 100
  let set := decide (5 ≤ vOn)
  let code := if set then l.method.code vOn else i.cfg.code
  { i with cfg := { i.cfg with code }, learn := none,
           record := some { full := l.method.isFull, vOn, code, set } }

/-- A learning is completed: the comparator takes the new levels, and a change of the raw level is a
raw transition at that instant (R81). A CHATTER of that transition is raised before LEARN_DONE, an
order that the model chooses (log 34). -/
def completeLearning (k : InputId) (l : Learning) (s : State) : State :=
  let i := (s.inp.get k).learned l
  let changed := i.cfg.code != (s.inp.get k).cfg.code
  let s := { s with inp := s.inp.set k i }
  let s := if changed && i.compare != i.raw then rawTransition k s.now s else s
  s.raise .learnDone

/-- LEARNING_END: the hundredth reading has been taken (R79, R81). -/
def learningEnd (k : InputId) (s : State) : State :=
  match (s.inp.get k).learn with
  | some l => if 100 ≤ l.readings then completeLearning k l s else s
  | none => s

end Sys2Proof.Machine
end

