-- ==== Sys2Proof/Machine/Reports.lean ====
section
/-! DEFINITION. The report store and grader (10): grading, finalization, and the entries of a report
as RRPT and LSTR send them. -/

namespace Sys2Proof.Machine

/-! ## Grading (R165 to R167) -/

/-- The multiple of setting (R165). -/
def multiple (amp setting : Nat) : Nat := roundHalfUp (amp * 1000) setting

/-- The interpolated time between two points (R166). -/
def interpolate (p q : Point) (m : Nat) : Nat :=
  ((p.t : Int) + roundHalfAway (((q.t : Int) - p.t) * ((m : Int) - p.m)) (q.m - p.m)).toNat

/-- The time of a multiple at or above the first of the points: along the segment it lies in, or the
last time (R166). -/
def curveTime (p : Point) (m : Nat) : List Point → Nat
  | [] => p.t
  | q :: rest => if q.m ≤ m then curveTime q m rest else interpolate p q m

/-- The expected time on a curve; none is NO_TRIP (R166). -/
def curveExpected (points : List Point) (m : Nat) : Option Nat :=
  match points with
  | [] => none
  | p :: rest => if m < p.m then none else some (curveTime p m rest)

/-- The expected time of a characteristic; none is NO_TRIP (R166). -/
def expectedTime (curves : Bank (Option (List Point)) 4) (c : Characteristic) (m : Nat) :
    Option Nat :=
  match c with
  | .definite tExp mPick => if m < mPick then none else some tExp
  | .curve i => curveExpected ((curves.get i).getD []) m

/-- The band about an expected time (R166). -/
def bandOf (g : Grade) (expected : Nat) : Nat :=
  max (roundHalfUp (expected * g.relTol) 1000) g.absTol

/-- The verdict when a lap is present and a time is expected (R167). -/
def judge (measured expected band : Nat) : Verdict :=
  if measured + band < expected then .failEarly
  else if expected + band < measured then .failLate
  else .pass

/-- The verdict of a record whose timer started (R167). -/
def verdictOf (g : Grade) (lap : Option Lap) (expected : Option Nat) : Verdict :=
  match lap, expected with
  | some l, some e => judge l.value e (bandOf g e)
  | some _, none => .failUnexpectedTrip
  | none, some _ => .failNoTrip
  | none, none => .passNoTrip

/-- One grade record is graded from its timer (R165, R166, R167). -/
def gradeOne (curves : Bank (Option (List Point)) 4) (tmr : Bank Timer 8) (i : GradeId)
    (g : Grade) : GradeEntry :=
  let tm := tmr.get g.timer
  match tm.start, tm.amps with
  | some _, some amps =>
    let m := multiple (amps.get g.ref) g.setting
    let expected := expectedTime curves g.char m
    let lap := tm.laps[g.lap - 1]?
    { grade := i, verdict := verdictOf g lap expected, m := some m, expected,
      measured := lap.map fun l => (l.value, l.early), band := expected.map (bandOf g) }
  | _, _ =>
    { grade := i, verdict := .notGraded, m := none, expected := none, measured := none,
      band := none }

/-- The GRADES section: the filled records in order (R160, R164). -/
def gradeAll (s : State) : List GradeEntry :=
  (List.finRange 8).filterMap fun i =>
    (s.rep.grades.get i).map (gradeOne s.rep.curves s.tmr i)

/-- Step 2 of finalization (R37). -/
def writeGrades (s : State) : State := s.write fun r => { r with grades := gradeAll s }

/-- A verdict counts as a pass (R167). -/
def Verdict.passes : Verdict → Bool
  | .pass | .passNoTrip => true
  | .failEarly | .failLate | .failUnexpectedTrip | .failNoTrip | .notGraded => false

/-- A verdict counts as a fail (R167). -/
def Verdict.fails : Verdict → Bool
  | .failEarly | .failLate | .failUnexpectedTrip | .failNoTrip => true
  | .pass | .passNoTrip | .notGraded => false

/-- The pass count of a report (R167). -/
def Report.passes (r : Report) : Nat := (r.grades.filter fun g => g.verdict.passes).length

/-- The fail count of a report (R167). -/
def Report.fails (r : Report) : Nat := (r.grades.filter fun g => g.verdict.fails).length

/-! ## Finalization (R37, R161) -/

/-- The per-shot counts of an input. -/
def Input.counts (i : Input) : InputCounts :=
  { bounces := i.bounces, edges := i.edges, periods := i.periods }

/-- What the report takes at step 3 of finalization (R159, R161). -/
def completeReport (s : State) (t : Time) (r : Report) : Report :=
  { r with finalize := relative s.seq.t0 t, clamped := s.syn.clamped,
           chatter := s.inp.map Input.inChatter, peaks := s.sup.thermal.map Thermal.peak,
           inputs := (s.inp.map Input.counts).items }

/-- The FILLING slot becomes UNREAD, at the newest end of the held reports (R156, R158). -/
def ReportStore.hold (r : ReportStore) : ReportStore :=
  match r.cur with
  | .filling =>
    { r with held := r.held ++ [{ report := r.fill, unread := true }], cur := .noSlot, fill := .empty }
  | .noSlot | .reserved => r

/-- Step 3 of finalization (R37). -/
def holdReport (t : Time) (s : State) : State :=
  let s := s.write (completeReport s t)
  { s with rep := s.rep.hold }.raise .shotEnded

/-- Steps 4 and 5 of finalization (R37): breakers to their initial state, the sequencer to READY. -/
def leaveTail (s : State) : State :=
  { s with brk := s.brk.map Breaker.settle,
           seq := { s.seq.endContext with st := .ready } }.refreshOutputs

/-- Finalization of the shot at engine time `t` (R37). -/
def finalize (t : Time) (s : State) : State :=
  leaveTail (holdReport t (writeGrades (closeTimers s)))

/-! ## Codes of the link (R190, R191) -/

/-- The code of a sync state. -/
def Sync.code : Sync → Nat
  | .noSync => 0
  | .acquiring => 1
  | .locked => 2
  | .holdover => 3

/-- The code of an arrangement. -/
def Arrangement.code : Arrangement → Nat
  | .standard => 0
  | .swapped => 1
  | .parallel => 2
  | .disconnected => 3

/-- The code of an end reason and its operand. -/
def EndReason.code : EndReason → Nat × Nat
  | .complete => (0, 0)
  | .endShot => (1, 0)
  | .stop => (2, 0)
  | .lengthLimit => (3, 0)
  | .hard .abort => (4, 0)
  | .hard .interlock => (5, 0)
  | .hard (.overload o) => (6, o.val + 1)
  | .hard .supplySag => (7, 0)

/-- End reason and operand of a report that has one, else 0. -/
def Report.endCode (r : Report) : Nat × Nat :=
  match r.endReason with
  | some e => e.code
  | none => (0, 0)

/-- The hard causes, in the order of their bits in the further-causes field (R190). -/
def hardCauses : List HardCause :=
  [.abort, .interlock, .supplySag] ++ (List.finRange 6).map .overload

/-- The code of a start source, its operand and its INPUT edge. -/
def StartSource.code : StartSource → Nat × Nat × Nat
  | .now => (0, 0, 0)
  | .pps n => (1, n, 0)
  | .input k .active => (2, k.val + 1, 0)
  | .input k .inactive => (2, k.val + 1, 1)

/-- The code of a breaker state as GSTA gives it. -/
def BrkState.code : BrkState → Nat
  | .closed => 1
  | .opening => 2
  | .opened => 3
  | .closing => 4

/-- The report flags as a byte. -/
def Flags.bits (f : Flags) : Nat :=
  bitField [f.angleMissed, f.ppsMissed, f.chainLimit, f.stopForced, f.rampLimit, f.sagSeen]

/-! ## Section entries (R190, R191) -/

/-- An optional 4-byte field: 0 when absent. -/
def optBytes (o : Option Nat) : List Byte := toBytes 4 (o.getD 0)

/-- The HEADER entry, 66 bytes (R190). -/
def headerBytes (r : Report) : List Byte :=
  toBytes 2 r.shotNo ++ toBytes 2 r.tag ++ toBytes 6 r.t0.toNat ++
  toBytes 1 r.source.code.1 ++ toBytes 1 r.source.code.2.1 ++ toBytes 1 r.source.code.2.2 ++
  flagByte r.ppsRef.isSome ++ optBytes (r.ppsRef.map (·.1)) ++
  toBytes 1 ((r.ppsRef.map (·.2.code)).getD 0) ++
  flagByte r.map.reversed ++ toBytes 1 r.map.arrangement.code ++
  toBytes 1 r.endCode.1 ++ toBytes 1 r.endCode.2 ++
  toBytes 2 (bitField (hardCauses.map r.further.contains)) ++
  toBytes 4 r.stopBegin ++ toBytes 4 r.finalize ++ toBytes 1 r.flags.bits ++
  setBytes 2 r.clamped ++ setBytes 2 r.chatter ++ (r.peaks.items.flatMap (toBytes 2)) ++
  toBytes 1 r.trail.length ++ toBytes 1 r.log.length ++ toBytes 1 r.marks.length ++
  toBytes 1 (r.ops.get 0).length ++ toBytes 1 (r.ops.get 1).length ++ toBytes 1 r.grades.length ++
  toBytes 2 r.trailOver ++ toBytes 2 r.logOver ++ toBytes 2 r.marksOver ++
  toBytes 2 (r.opsOver.get 0) ++ toBytes 2 (r.opsOver.get 1)

/-- The code of a state entry's cause and its entry index. -/
def Cause.code : Cause → Nat × Nat
  | .start => (0, 0)
  | .expiry => (1, 0)
  | .trigger i => (2, i.val)

/-- A TRAIL entry, 10 bytes. -/
def trailBytes (e : TrailEntry) : List Byte :=
  toBytes 1 e.state.val ++ toBytes 2 e.tag ++ toBytes 4 e.time ++ toBytes 1 e.cause.code.1 ++
  toBytes 1 e.cause.code.2 ++
  toBytes 1 (bitField [e.angleMissed, e.ppsMissed, e.superseded])

/-- The code of a timer mode and its input. -/
def TimerMode.code : TimerMode → Nat × Nat
  | .interval => (0, 0)
  | .width k => (1, k.val + 1)
  | .count k => (2, k.val + 1)

/-- The code of a timer outcome. -/
def TimerOutcome.code : TimerOutcome → Nat
  | .disabled => 0
  | .notStarted => 1
  | .opened => 2
  | .stopped => 3
  | .timedOut => 4

/-- One of the four lap places of a TIMERS entry: 0 when no lap stands there. -/
def lapBytes (l : Option Lap) : List Byte :=
  match l with
  | some l => toBytes 4 l.value ++ flagByte l.early
  | none => toBytes 5 0

/-- A TIMERS entry, 36 bytes; `n` is the timer number less 1. -/
def timerBytes (n : Nat) (r : TimerResult) : List Byte :=
  toBytes 1 (n + 1) ++ toBytes 1 r.mode.code.1 ++ toBytes 1 r.mode.code.2 ++
  flagByte r.start.isSome ++ optBytes r.start ++ toBytes 1 r.outcome.code ++
  toBytes 1 r.laps.length ++
  lapBytes r.laps[0]? ++ lapBytes r.laps[1]? ++ lapBytes r.laps[2]? ++ lapBytes r.laps[3]? ++
  toBytes 2 r.count ++ toBytes 2 r.extra ++ toBytes 2 r.late

/-- The code of a verdict. -/
def Verdict.code : Verdict → Nat
  | .pass => 0
  | .passNoTrip => 1
  | .failEarly => 2
  | .failLate => 3
  | .failUnexpectedTrip => 4
  | .failNoTrip => 5
  | .notGraded => 6

/-- A GRADES entry, 20 bytes. -/
def gradeBytes (g : GradeEntry) : List Byte :=
  toBytes 1 (g.grade.val + 1) ++ toBytes 1 g.verdict.code ++
  toBytes 1 (bitField [g.m.isSome, g.expected.isSome, g.measured.isSome, g.band.isSome]) ++
  optBytes g.m ++ optBytes g.expected ++ optBytes (g.measured.map (·.1)) ++
  flagByte ((g.measured.map (·.2)).getD false) ++ optBytes g.band

/-- The code of an operation kind. -/
def OpKind.code : OpKind → Nat
  | .opened => 0
  | .closed => 1
  | .tripRefused => 2
  | .closeRefused => 3

/-- The code of a command cause and its operand. -/
def CmdCause.code : CmdCause → Nat × Nat
  | .input k => (0, k.val + 1)
  | .trigger i => (1, i.val)

/-- The code of a refusal and the breaker state found. -/
def OpRefusal.code : OpRefusal → Nat × Nat
  | .accepted => (0, 0)
  | .state b => (1, b.code)
  | .tripFree => (2, 0)

/-- A BREAKERS entry, 19 bytes. -/
def opBytes (b : BreakerId) (e : OpEntry) : List Byte :=
  toBytes 1 (b.val + 1) ++ toBytes 1 e.kind.code ++ toBytes 4 e.command ++
  toBytes 4 e.completion ++ toBytes 1 e.cause.code.1 ++ toBytes 1 e.cause.code.2 ++
  toBytes 1 e.refusal.code.1 ++ toBytes 1 e.refusal.code.2 ++ flagByte e.replaced.isSome ++
  optBytes e.replaced

/-- A TRIGGERS entry, 6 bytes. -/
def logBytes (e : LogEntry) : List Byte :=
  toBytes 1 e.entry.val ++ toBytes 4 e.time ++ flagByte e.superseded

/-- A MARKS entry, 12 bytes. -/
def markBytes (m : Mark) : List Byte :=
  toBytes 4 m.time ++ toBytes 1 m.state.val ++ toBytes 2 m.step ++ flagByte m.live.isSome ++
  optBytes m.live

/-- An INPUTS entry, 6 bytes. -/
def inputBytes (c : InputCounts) : List Byte :=
  toBytes 2 c.bounces ++ toBytes 2 c.edges ++ toBytes 2 c.periods

/-- The entries of a section, each as its bytes, in section order (R160, R169). -/
def sectionEntries (r : Report) : Section → List (List Byte)
  | .header => [headerBytes r]
  | .trail => r.trail.map trailBytes
  | .timers => r.timers.mapIdx timerBytes
  | .grades => r.grades.map gradeBytes
  | .breakers => (r.ops.get 0).map (opBytes 0) ++ (r.ops.get 1).map (opBytes 1)
  | .triggers => r.log.map logBytes
  | .marks => r.marks.map markBytes
  | .inputs => r.inputs.map inputBytes

/-- The most entries one reply returns (R169). -/
def Section.perReply : Section → Nat
  | .header => 1
  | .trail => 12
  | .timers => 2
  | .grades => 8
  | .breakers => 12
  | .triggers => 24
  | .marks => 12
  | .inputs => 10

/-- The entries that a reply carries from a first index (R169). -/
def sectionPart (r : Report) (sec : Section) (first : Nat) : List (List Byte) :=
  ((sectionEntries r sec).drop first).take sec.perReply

/-- An LSTR entry, 7 bytes (R168, R191). -/
def listBytes (h : HeldReport) : List Byte :=
  toBytes 2 h.report.shotNo ++ toBytes 1 h.report.endCode.1 ++ toBytes 1 h.report.endCode.2 ++
  flagByte h.unread ++ toBytes 1 h.report.passes ++ toBytes 1 h.report.fails

end Sys2Proof.Machine
end

