-- ==== Sys2Proof/Machine/Sequencer.lean ====
section
/-! DEFINITION. The sequencer's own events (02): the start, state entries, durations, ramps, the
length limit, the forced cut, the tail, and the sample tick that drives them (03). -/

namespace Sys2Proof.Machine

/-! ## The sample grid (R23, R131) -/

/-- The tick whose sample is due: the next one, or, when engine time has passed it, the first that
has not passed (R23, log 1). -/
def tickDue (s : State) : Time :=
  if atOrAfter s.now s.clock.nextTick then s.clock.nextTick
  else tickAtOrAfter s.clock.anchor s.now

/-! ## State entry (R22, R28) -/

/-- The synthesizer takes a record's settings at an entry tick (R28, R44 to R48). -/
def loadChannels (r : StateRecord) (reset : Bool) (s : State) : State :=
  let y := { s.syn with chans := s.syn.chans.mapIdx fun c x => x.load reset (r.chans.get c) }
  { s with syn := deriveOutlets (s.seq.st == .running) s.cal.working y }

/-- The duration timer of an entry (R24). -/
def StateRecord.durationFrom (r : StateRecord) (tick : Time) : Option Time :=
  if r.duration = 0 then none else some (after tick (r.duration * 1000))

/-- The first dwell expiry of an entry (R30). -/
def StateRecord.dwellFrom (r : StateRecord) (tick : Time) : Option Time :=
  r.ramp.map fun p => after tick (p.dwell * 1000)

/-- The trail entry of a state entry; its flags go to the header too (R26, R28, R159). -/
def writeTrail (e : TrailEntry) (s : State) : State :=
  s.write fun r =>
    { r with trail := appendTo 32 r.trail e, trailOver := overflowTo 32 r.trail r.trailOver,
             flags := { r.flags with angleMissed := r.flags.angleMissed || e.angleMissed,
                                     ppsMissed := r.flags.ppsMissed || e.ppsMissed } }

/-- A state is entered at a tick: steps 1 to 5 of R28. -/
def enterState (i : StateIdx) (reset : Bool) (cause : Cause) (angleMissed ppsMissed : Bool)
    (tick : Time) (s : State) : State :=
  let r := s.seq.record i
  let s := { s with seq := { s.seq with
    inForce := some i, pend := none, durationDue := r.durationFrom tick, rampSteps := 0,
    dwellDue := r.dwellFrom tick } }
  writeTrail { state := i, tag := r.tag, time := relative s.seq.t0 tick, cause, angleMissed,
               ppsMissed, superseded := false } <|
    State.refreshOutputs <| loadChannels r reset s

/-! ## The start (R22) -/

/-- The next number in the order 1, 2, ..., 65,535, 1 (R22). -/
def nextNumber (n : Nat) : Nat := if 65535 ≤ n then 1 else n + 1

/-- The first of the next numbers that no held report carries; `fuel` bounds the search (R22). -/
def freeNumber (held : List HeldReport) : Nat → Nat → Nat
  | 0, n => nextNumber n
  | fuel + 1, n =>
    if held.any fun h => h.report.shotNo == nextNumber n then freeNumber held fuel (nextNumber n)
    else nextNumber n

/-- The shot number given at a start: at most 16 numbers are skipped (R22). -/
def shotNumber (s : State) : Nat := freeNumber s.rep.held 16 s.seq.shotNo

/-- The PPS reference of a start (R140). -/
def ppsReference (tb : TimeBase) (t0 : Time) : Option (Nat × Sync) :=
  match tb.sync, tb.latest with
  | .locked, some l => some (elapsed l t0, .locked)
  | .holdover, some l => some (elapsed l t0, .holdover)
  | _, _ => none

/-- Steps 1 and 2 of R22: the shot number, the stop record and the report slot. -/
def beginReport (t0 : Time) (src : StartSource) (s : State) : State :=
  { s with
    seq := { s.seq with shotNo := shotNumber s, endReason := none, stopBegin := 0, further := [],
                        startDue := none, t0 }
    rep := { s.rep with
      cur := .filling
      fill := { Report.empty with shotNo := shotNumber s, tag := s.seq.header.tag, t0,
                                  source := src, ppsRef := ppsReference s.tb t0, map := s.syn.map } } }

/-- An input at the start of a shot (R22, R77); a window that stands open was opened before t0, so that
its opening is no bounce of the shot (R74). -/
def Input.begin (i : Input) : Input :=
  { i with bounces := 0, edges := 0, periods := 0, inChatter := i.chatter,
           window := i.window.map fun w => { w with counted := false } }

/-- A channel's silence status at the start (R54, R127). -/
def Chan.begin (interrupted : Bool) (c : Chan) : Chan :=
  { c with status := if interrupted then .interrupted else .clear }

/-- The peak usages at t0 (R148). -/
def beginPeaks (s : State) : Bank Thermal 6 :=
  s.sup.thermal.mapIdx fun o h => { h with peak := usageOf s o }

/-- Step 3 of R22: every block clears its per-shot state. -/
def clearShot (s : State) : State :=
  { s with
    tmr := s.tmr.map Timer.clear
    trg := s.trg.map fun e => { e with count := 0 }
    brk := s.brk.map Breaker.begin
    inp := s.inp.map Input.begin
    syn := { s.syn with
      chans := s.syn.chans.mapIdx fun c x => x.begin (startsInterrupted s.brk c)
      clamped := .fill 10 false }
    sup := { s.sup with thermal := beginPeaks s } }

/-- The start of a shot at t0 (R22): steps 1 to 4, then SHOT_START and STATE_ENTER(S0). -/
def startShot (t0 : Time) (src : StartSource) (s : State) : State :=
  let s := clearShot (beginReport t0 src s)
  let s := { s with seq := { s.seq with st := .running },
                    clock := { s.clock with anchor := some t0, nextTick := t0 } }
  let s := enterState 0 (s.seq.record 0).rule.reset .start false false t0 s
  let s := (autoStart t0 s).raise .shotStarted
  route { kind := .stateEnter 0, time := t0, routed := t0 }
    (route { kind := .shotStart, time := t0, routed := t0 } s)

/-- The sync state as it stands at t0 has not been taken: LOCKED ends at L + 1,000,201 µs and HOLDOVER at
L + 5,000,000 µs, so that the offset of a start is below 1,000,201 µs in LOCKED and at most 4,999,999 µs in
HOLDOVER, as the prose of R140 says. The range of its table also names 5,000,000; that a start at that instant
comes after the fall to NO_SYNC is the model's choice (log 42). -/
def lockWaits (tb : TimeBase) (t0 : Time) : Bool :=
  match tb.sync, tb.latest with
  | .locked, some l => atOrAfter (after l 1000201) t0
  | .holdover, some l => atOrAfter (after l 5000000) t0
  | _, _ => false

/-- SHOT_START: the start that is due is taken (R22), once the sync state has changed as it does by t0 (R135,
R140, log 4, log 42). -/
def shotStart (s : State) : State :=
  match s.seq.st, s.seq.startDue, s.seq.source with
  | .armed, some t0, some src => if lockWaits s.tb t0 then s else startShot t0 src (s.advance t0)
  | _, _, _ => s

/-! ## The order of the sequencer's own work at one tick (R29, R31) -/

/-- A ramp step due at or before a tick has not been taken: an expiry, an entry or the length limit of
that tick waits for it (R29, R31, R87). -/
def stepWaits (q : Sequencer) (tick : Time) : Bool :=
  match q.dwellDue with
  | some d => atOrAfter d tick
  | none => false

/-- An expiry due at or before a tick has not been taken: an entry or the length limit of that tick
waits for it (R29, R31). -/
def expiryWaits (q : Sequencer) (tick : Time) : Bool :=
  match q.durationDue with
  | some d => atOrAfter d tick
  | none => false

/-- No ramp step and no expiry comes before an entry at a tick (R29). -/
def entryMayGo (q : Sequencer) (tick : Time) : Bool := !stepWaits q tick && !expiryWaits q tick

/-! ## Durations (R24) -/

/-- The last trail entry takes EXPIRY_SUPERSEDED, when the entry of the state in force was stored
(R24). -/
def markSuperseded (s : State) : State :=
  s.write fun r =>
    if r.trailOver = 0 then
      { r with trail := r.trail.modify (r.trail.length - 1) fun e => { e with superseded := true } }
    else r

/-- The duration of the state in force expires at `d` (R24). -/
def expire (d : Time) (s : State) : State :=
  let s := { s with seq := { s.seq with durationDue := none } }
  match s.seq.pend with
  | some _ => markSuperseded s
  | none =>
    match (s.seq.record (s.seq.inForce.getD 0)).next with
    | some target => s.request target .expiry d
    | none => s.softStop .complete d

/-- DURATION_EXPIRY (R24), when no ramp step of its tick waits (R29, log 4). -/
def durationExpiry (s : State) : State :=
  match s.seq.st, s.seq.durationDue with
  | .running, some d => if stepWaits s.seq d then s else expire d (s.advance d)
  | _, _ => s

/-! ## Ramps (R30) -/

/-- A quantity stepped and held within 0 and a limit (R7, R30). -/
def stepWithin (limit : Nat) (v : Nat) (step : Int) : Nat := (max 0 (min (limit : Int) (v + step))).toNat

/-- The step leaves the limits, so that the value is saturated (R30). -/
def stepSaturates (limit : Nat) (v : Nat) (step : Int) : Bool :=
  decide ((v : Int) + step < 0) || decide ((limit : Int) < v + step)

/-- One channel takes a ramp step (R30, R44, R45, R53). -/
def Chan.step (limit : Nat) (q : Quantity) (step : Int) (c : Chan) : Chan :=
  match q with
  | .amplitude => { c with amp := stepWithin limit c.amp step }
  | .phase =>
    let a := ((c.angle + step) % 36000).toNat
    { c with angle := a, phi := offsetWord a, fresh := true }
  | .frequency =>
    let f := stepWithin 1000000 c.freq step
    { c with freq := f, delta := increment f }

/-- A ramp step saturates a channel (R30). -/
def Chan.saturates (limit : Nat) (q : Quantity) (step : Int) (c : Chan) : Bool :=
  match q with
  | .amplitude => stepSaturates limit c.amp step
  | .phase => false
  | .frequency => stepSaturates 1000000 c.freq step

/-- Some channel of the ramp is saturated by the step (R30). -/
def rampSaturates (p : Ramp) (chans : Bank Chan 10) : Bool :=
  (List.finRange 10).any fun c =>
    p.chans.get c && (chans.get c).saturates (ampLimit c) p.quantity p.step

/-- Steps 1 and 2 of R30: the live values, the outlets of an AMPLITUDE step, RAMP_LIMIT. -/
def stepChannels (p : Ramp) (s : State) : State :=
  let chans := s.syn.chans.mapIdx fun c x =>
    if p.chans.get c then x.step (ampLimit c) p.quantity p.step else x
  let y := { s.syn with chans }
  let y := match p.quantity with
    | .amplitude => deriveOutlets (s.seq.st == .running) s.cal.working y
    | .phase => y
    | .frequency => y
  let saturated := rampSaturates p s.syn.chans
  { s with syn := y }.flag fun f => { f with rampLimit := f.rampLimit || saturated }

/-- The dwell of a ramp expires at `d` (R30). -/
def rampStepAt (p : Ramp) (d : Time) (s : State) : State :=
  let s := stepChannels p s
  let n := s.seq.rampSteps + 1
  let last := decide (n = p.count)
  let s := { s with seq := { s.seq with
    rampSteps := n, dwellDue := if last then none else some (after d (p.dwell * 1000)) } }
  let s := route { kind := .rampStep, time := d, routed := d } s
  if last then route { kind := .rampEnd, time := d, routed := d } s else s

/-- RAMP_STEP (R30). -/
def rampStep (s : State) : State :=
  match s.seq.st, s.seq.dwellDue, s.seq.ramp with
  | .running, some d, some p => rampStepAt p d (s.advance d)
  | _, _, _ => s

/-! ## Entry of a pending transition (R26 to R28, R139) -/

/-- The target word lies in the interval that the reference's phase word has moved through since the
last tick, the earlier end excluded. A reference that a ramp has brought to frequency or amplitude 0
crosses nothing, from the tick of that step on, so that its wait ends at the deadline (R27, log 41). -/
def crossesAngle (c : Chan) (angle : Nat) : Bool :=
  let d := offsetWord angle - c.prev
  !c.idle && (decide (0 < d.toNat) && decide (d.toNat ≤ (c.word - c.prev).toNat))

/-- Whether a pending transition is taken now, at which tick, and with which of the flags
ANGLE_MISSED and PPS_MISSED; none when its entry tick has not come (R26, R27, R139). -/
def entryOf (s : State) (p : Pending) : Option (Time × Bool × Bool) :=
  let grid := s.clock.anchor
  match p.rule.mode with
  | .immediate => some (tickAfter grid p.request, false, false)
  | .atPps =>
    match p.pulse with
    | some t => some (tickAtOrAfter grid t, false, false)
    | none => some (tickAfter grid (after p.request 1000200), false, true)
  | .atAngle ref angle =>
    if p.untestable then some (tickAfter grid p.request, true, false)
    else
      let tick := tickDue s
      if !isAfter p.request tick then none
      else if crossesAngle (s.syn.chans.get ref) angle then some (tick, false, false)
      else if atOrAfter (after p.request 1000000) tick then some (tick, true, false)
      else none

/-- The pending transition is taken at its entry tick, and STATE_EXIT and STATE_ENTER are routed
(R28). -/
def takeEntry (p : Pending) (tick : Time) (angleMissed ppsMissed : Bool) (s : State) : State :=
  let old := s.seq.inForce.getD p.target
  let s := enterState p.target p.rule.reset p.cause angleMissed ppsMissed tick s
  route { kind := .stateEnter p.target, time := tick, routed := tick }
    (route { kind := .stateExit old, time := tick, routed := tick } s)

/-- TRANSITION_ENTRY (R28), when no ramp step and no expiry of its tick waits (R29, log 4). -/
def transitionEntry (s : State) : State :=
  match s.seq.st, s.seq.pend with
  | .running, some p =>
    match entryOf s p with
    | some (tick, angleMissed, ppsMissed) =>
      if entryMayGo s.seq tick then takeEntry p tick angleMissed ppsMissed (s.advance tick) else s
    | none => s
  | _, _ => s

/-- The entry of the pending transition at or before a tick has not been taken: the length limit and
the sample of that tick wait for it (R28, R31). -/
def entryWaits (s : State) (tick : Time) : Bool :=
  match s.seq.pend.bind (entryOf s) with
  | some (e, _, _) => atOrAfter e tick
  | none => false

/-- In RUNNING, a ramp step, an expiry or an entry of a tick has not been taken: the length limit comes
after them (R31), and the sample of the tick takes what they set (R27, R28, R30). -/
def workWaits (s : State) (tick : Time) : Bool :=
  s.seq.st == .running && (!entryMayGo s.seq tick || entryWaits s tick)

/-! ## The end of a shot (R31, R33, R36) -/

/-- LENGTH_LIMIT: a shot still RUNNING at t0 + 4,000,000,000 µs is soft-stopped, once the sequencer's
own work of that tick has been taken (R31, log 4). -/
def lengthLimit (s : State) : State :=
  match s.seq.st with
  | .running =>
    let d := after s.seq.t0 Config.reportLimit
    if workWaits s d then s else (s.advance d).softStop .lengthLimit d
  | .empty | .ready | .armed | .stopping | .tail => s

/-- The forced cut at a tick: the channels still waiting are silenced, STOP_FORCED is set and TAIL
is entered (R33, R57). -/
def cutAt (tick : Time) (s : State) : State :=
  let s := { s with syn := { s.syn with chans := s.syn.chans.map Chan.cut }.quiet }
  (s.flag fun f => { f with stopForced := true }).enterTail tick

/-- The tick of the forced cut: the first at or after stop-begin + 50,000 µs (R33, R57). -/
def cutTick (s : State) : Time := tickAtOrAfter s.clock.anchor (after s.seq.stopBegin 50000)

/-- FORCED_CUT (R33). -/
def forcedCut (s : State) : State :=
  match s.seq.st with
  | .stopping => if s.syn.someStopPending then cutAt (cutTick s) (s.advance (cutTick s)) else s
  | .empty | .ready | .armed | .running | .tail => s

/-- TAIL_EXPIRY (R36, R37). With a tail time of 0 it is due at the instant TAIL is entered (log 18). -/
def tailExpiry (s : State) : State :=
  match s.seq.st, s.seq.tailDue with
  | .tail, some d => finalize d (s.advance d)
  | _, _ => s

/-! ## The sample tick (R50, R59) -/

/-- Tick resolution of every channel, while waveforms are produced (R59). -/
def resolveTick (tick : Time) (s : State) : State :=
  if s.seq.st.driving then
    { s with syn := { s.syn with chans := s.syn.chans.map (Chan.resolve tick) } }
  else s

/-- In STOPPING, the forced cut of a tick has not been made and some channel would still wait after the
tick's resolution: the sample of the tick comes after the cut, which makes that channel emit 0 there
(R57). -/
def cutWaits (s : State) (tick : Time) : Bool :=
  s.seq.st == .stopping && atOrAfter (cutTick s) tick && (resolveTick tick s).syn.someStopPending

/-- STOPPING ends at the tick at which the last channel is silenced (R33, R36). -/
def endStopping (tick : Time) (s : State) : State :=
  match s.seq.st with
  | .stopping => if s.syn.allStopped then s.enterTail tick else s
  | .empty | .ready | .armed | .running | .tail => s

/-- The codes of a tick, and the advance of the accumulators (R46, R50, R51). -/
def emitSamples (s : State) : State :=
  let driving := s.seq.st.driving
  let y := { s.syn with dac := .ofFn (emitted driving s.cal.working s.syn) }
  { s with syn := if driving then { y with chans := y.chans.map Chan.advance } else y }

/-- A sample tick is taken: resolution, the end of STOPPING, the samples, the advance (R50, R59). -/
def sampleAt (tick : Time) (s : State) : State :=
  let s := emitSamples (endStopping tick (resolveTick tick (s.advance tick)))
  { s with clock := { s.clock with nextTick := tickAfter s.clock.anchor tick } }

/-- SAMPLE_TICK (R50), once the sequencer's own work of its tick and a forced cut that the tick needs have
been taken (R27, R28, R30, R57, log 4). -/
def sampleTick (s : State) : State :=
  if workWaits s (tickDue s) || cutWaits s (tickDue s) then s else sampleAt (tickDue s) s

end Sys2Proof.Machine
end

