-- ==== Sys2Proof/Machine/Supervision.lean ====
section
/-! DEFINITION. Output supervision (09): the thermal budget, the supply check, the interlock loop, and
the outlet settle. -/

namespace Sys2Proof.Machine

/-! ## The thermal budget (R143 to R148) -/

/-- H after an update: min(W, max(0, H + A² - C²)) (R143). -/
def heatAfter (heat amp rating capacity : Nat) : Nat :=
  min capacity ((max 0 ((heat : Int) + (amp : Int) ^ 2 - (rating : Int) ^ 2)).toNat)

/-- The update brings H to W from below W (R145). -/
def overloads (before afterwards capacity : Nat) : Bool :=
  decide (before < capacity) && decide (afterwards = capacity)

/-- The thermal account of one outlet after an update: H, warning status, hot status and, in a shot,
peak usage (R143 to R148). -/
def Thermal.update (inShot : Bool) (amp rating capacity : Nat) (h : Thermal) : Thermal :=
  let heat := heatAfter h.heat amp rating capacity
  let u := usage heat capacity
  { heat
    given := if 800 ≤ u then true else if u < 700 then false else h.given
    hot := if overloads h.heat heat capacity then true else if u < 500 then false else h.hot
    peak := if inShot then max h.peak u else h.peak }

/-- The amplitude that an update charges to an outlet (R49, R143). -/
def chargedAmp (s : State) (o : CurrentOutlet) : Nat :=
  amplitudeInEffect s.seq.st.driving s.syn (outletOf o)

/-- The accounts of the six outlets after an update (R143). -/
def updateThermal (s : State) : Bank Thermal 6 :=
  s.sup.thermal.mapIdx fun o h =>
    h.update s.seq.st.inShot (chargedAmp s o) (ratingOf s o) (capacityOf s o)

/-- The outlets that the update overloads (R145). -/
def overloadedBy (s : State) : List CurrentOutlet :=
  (List.finRange 6).filter fun o =>
    overloads (s.sup.thermal.get o).heat ((updateThermal s).get o).heat (capacityOf s o)

/-- Some outlet's warning is given by the update (R144). -/
def warnsBy (s : State) : Bool :=
  (List.finRange 6).any fun o =>
    !(s.sup.thermal.get o).given && ((updateThermal s).get o).given

/-- The notices of an update (R144, R145): OVERLOAD_WARN, then OVERLOAD, an order that the model
chooses (log 34). -/
def thermalNotices (warns overloaded : Bool) (s : State) : State :=
  let s := if warns then s.raise .overloadWarn else s
  if overloaded then s.raise .overload else s

/-- The sequencer takes the hard-stop request of one overloaded outlet (R145). -/
def overloadStop (t : Time) (o : CurrentOutlet) (s : State) : State × List CurrentOutlet :=
  (s.hardStop (.overload o) t, [])

/-- SUPERVISION_INTERVAL: the accounts are updated, and the requests of the overloaded outlets are
taken in the order of the schedule (R143, R145). -/
def supervise (sched : List Nat) (s : State) : State :=
  let t := periodicDue 10000 s.clock.nextSupervision s.now
  let s := s.advance t
  let hit := overloadedBy s
  let warns := warnsBy s
  let s := { s with sup := { s.sup with thermal := updateThermal s },
                    clock := { s.clock with nextSupervision := nextMultiple 10000 t } }
  runWork (overloadStop t) 6 sched hit (thermalNotices warns (!hit.isEmpty) s)

/-! ## The supply check (R149, R150) -/

/-- The low count after a check (R149). -/
def lowAfter (sagLow : Bool) (low : Nat) : Nat := if sagLow then min (low + 1) 50 else 0

/-- A sag onset (R150). -/
def sagOnset (t : Time) (s : State) : State :=
  let s := s.rejectRises .supplySag
  if s.seq.st.inShot then
    let s := s.flag fun f => { f with sagSeen := true }
    match s.seq.header.sagMode with
    | .warn => s
    | .stop => s.hardStop .supplySag t
  else s

/-- The SAG input is read at a check (R149). -/
def readSag (t : Time) (sagLow : Bool) (s : State) : State :=
  let low := lowAfter sagLow s.sup.low
  let sag := decide (s.seq.header.persistence ≤ low)
  let onset := sag && !s.sup.sag
  let s := { s with sup := { s.sup with low, sag } }
  if onset then sagOnset t s else s

/-- Every input's level monitor is read at a check (R70, R79). -/
def readLevels (volts : Bank Nat 10) (s : State) : State :=
  { s with inp := s.inp.mapIdx fun k i => i.read (volts.get k) }

/-- SUPPLY_CHECK (R149). -/
def supplyCheck (sagLow : Bool) (volts : Bank Nat 10) (s : State) : State :=
  let t := periodicDue 1000 s.clock.nextSupply s.now
  let s := s.advance t
  let s := { s with clock := { s.clock with nextSupply := nextMultiple 1000 t } }
  readLevels volts (readSag t sagLow s)

/-! ## The interlock loop (R151) -/

/-- INTERLOCK_OPENING: a change of the loop from closed to open (R151). INTERLOCK_OPEN is raised before
the ARM_CANCELLED of an arm that it cancels, an order that the model chooses (log 34). -/
def interlockOpens (t : Time) (s : State) : State :=
  if s.sup.interlockOpen then s
  else
    let s := { s with sup := { s.sup with interlockOpen := true } }.raise .interlockOpen
    (s.rejectRises .interlockOpen).hardStop .interlock t

/-- INTERLOCK_CLOSING: a change of the loop from open to closed (R151). -/
def interlockCloses (s : State) : State :=
  { s with sup := { s.sup with interlockOpen := false } }

/-! ## The outlet settle (R65) -/

/-- OUTLET_SETTLE_END (R65). -/
def settleEnd (s : State) : State :=
  match s.syn.settle with
  | none => s
  | some t =>
    let s := s.advance t
    { s with syn := { s.syn with settle := none }.closeContactors }.raise .outletReady

/-! ## Due events of timers and breakers (R112, R121, R122) -/

/-- TIMER_TIMEOUT (R112). -/
def timerTimeout (m : TimerId) (s : State) : State :=
  match s.seq.st.inShot, (s.tmr.get m).run, (s.tmr.get m).due with
  | true, .running, some d =>
    let s := s.advance d
    route { kind := .timerTimeout m, time := d, routed := d }
      { s with tmr := s.tmr.modify m Timer.expire }
  | _, _, _ => s

/-- BREAKER_OPEN_COMPLETE (R118, R121). -/
def openComplete (b : BreakerId) (s : State) : State :=
  match s.seq.st.inShot, (s.brk.get b).op with
  | true, some op =>
    if op.opens then
      let s := s.advance op.due
      route { kind := .breakerOpen b, time := op.due, routed := op.due } (completeOpen b op s)
    else s
  | _, _ => s

/-- BREAKER_CLOSE_COMPLETE (R118, R122). -/
def closeComplete (b : BreakerId) (s : State) : State :=
  match s.seq.st.inShot, (s.brk.get b).op with
  | true, some op =>
    if op.opens then s
    else
      let s := s.advance op.due
      route { kind := .breakerClosed b, time := op.due, routed := op.due } (completeClose b op s)
  | _, _ => s

end Sys2Proof.Machine
end

