-- ==== Sys2Proof/WellFormed.lean ====
section
/-! DEFINITION. Which commands are well formed: a request must be a frame that the line can carry
(R190: LEN is 0 to 250), and an unknown-kind request must carry a KIND that names no message. -/

namespace Sys2Proof

/-- The KIND of each of the 26 messages (R175). -/
def messageCodes : List Byte :=
  [0x01, 0x02, 0x03, 0x04, 0x05, 0x06, 0x07] ++
  [0x10, 0x11, 0x12, 0x13, 0x14, 0x15, 0x16, 0x17] ++
  [0x20, 0x21, 0x22, 0x23] ++ [0x30, 0x31, 0x32, 0x33] ++ [0x50, 0x51, 0x52]

/-- The body of a frame: LEN counts it and lies in 0 to 250 (11.2). -/
def bodyFits (body : List Byte) : Bool := body.length ≤ 250

/-- The well-formed commands. -/
def Instr.wf : Instr → Bool
  | .ginf _ _ b | .gsta _ _ b | .erst _ _ b | .nmsk _ _ b | .nack _ _ b | .rcal _ _ b
  | .wcal _ _ b | .lsta _ _ b | .clrs _ _ b | .cmit _ _ b | .ltrg _ _ b | .ctmr _ _ b
  | .cbrk _ _ b | .lcrv _ _ b | .lgrd _ _ b | .smap _ _ b | .cinp _ _ b | .lrnt _ _ b
  | .ginp _ _ b | .arm _ _ b | .darm _ _ b | .stop _ _ b | .abrt _ _ b | .lstr _ _ b
  | .rrpt _ _ b | .relr _ _ b => bodyFits b
  | .unknownKindRequest _ _ kind b => bodyFits b && !messageCodes.contains kind
  | .powerOn _ | .rstnAssert _ | .rstnRelease _ | .engineReset _ | .rxCharacter _ _ _
  | .frameSent _ _ | .wcalWriteComplete _ | .sampleTick | .shotStart | .durationExpiry
  | .rampStep | .transitionEntry | .lengthLimit | .forcedCut | .tailExpiry
  | .rawTransition _ _ _ | .debounceWindowEnd _ _ | .chatterWindowBoundary _
  | .supplyCheck _ _ | .learningEnd _
  | .supervisionInterval _ | .interlockOpening _ | .interlockClosing _ | .ppsPulse _ _
  | .holdoverEntry | .syncTimeout | .outletSettleEnd | .timerTimeout _ | .breakerOpenComplete _
  | .breakerCloseComplete _ | .powerLoss _ => true

end Sys2Proof
end

