-- ==== Sys2Proof/Machine/Requests.lean ====
section
/-! DEFINITION. What each message does once the link interface has passed its kind and its length: the
checks of its rule in their order, its effect, and the body of its reply (R10 to R12, R19, R39 to R42,
R64, R68, R78, R83, R85, R101, R115, R163, R164, R168 to R171, R182 to R189). -/

namespace Sys2Proof.Machine

/-! ## Replies (R178) -/

/-- The statuses of a reply (R178). -/
inductive Status where
  | ok | busy | unknownKind | badLength | paramRange | wrongState | rejected | conflict | notFound
  | unreadReport | serviceOnly
deriving DecidableEq, Repr

/-- The code of a status (R178). -/
def Status.code : Status → Byte
  | .ok => 0x00
  | .busy => 0x01
  | .unknownKind => 0x02
  | .badLength => 0x03
  | .paramRange => 0x04
  | .wrongState => 0x05
  | .rejected => 0x06
  | .conflict => 0x07
  | .notFound => 0x08
  | .unreadReport => 0x09
  | .serviceOnly => 0x0A

/-- What a message leaves when its reply is formed at once: the state and the body of the reply. -/
abbrev Answered := State × List Byte

/-- A refusal: nothing changes (R178). -/
def refused (why : Status) (s : State) : Answered := (s, [why.code])

/-- Acceptance with no results. -/
def done (s : State) : Answered := (s, [Status.ok.code])

/-- Acceptance with results: the state stands. -/
def results (body : List Byte) (s : State) : Answered := (s, Status.ok.code :: body)

/-! ## Editing (R9) -/

/-- An accepted edit clears the commit flag, and READY returns to EMPTY; there is no longer a
committed sequence, and sequence-owned outputs drop to owner NONE (R2, R9, R16). -/
def State.withdraw (s : State) : State :=
  { s with seq := { s.seq with commit := false, st := .empty } }.refreshOutputs

/-- An editing message: admitted by the sequencer state, then its operands, then its effect (R9). -/
def editing {α : Type} (operands : Option α) (effect : α → State → State) (s : State) : Answered :=
  if s.seq.st.editable then
    match operands with
    | some a => done (effect a s).withdraw
    | none => refused .paramRange s
  else refused .wrongState s

/-- LSTA: the record fills its place (R1, R10). -/
def loadState (body : List Byte) (s : State) : Answered :=
  editing (readLsta body)
    (fun r s => { s with seq := { s.seq with table := s.seq.table.set r.1 (some r.2) } }) s

/-- A trigger entry that CLRS has disabled, its counter zero (R11, R84). -/
def TrigSlot.cleared (t : TrigSlot) : TrigSlot :=
  { entry := t.entry.map fun e => { e with enabled := false }, count := 0 }

/-- The effect of CLRS: table, header, triggers, timers, grades and curves (R11). -/
def clearAll (s : State) : State :=
  { s with
    seq := { s.seq with table := .fill 24 none, header := .default }
    trg := s.trg.map TrigSlot.cleared
    tmr := s.tmr.map fun m => { m with cfg := { m.cfg with enabled := false } }
    rep := { s.rep with curves := .fill 4 none, grades := .fill 8 none } }

/-- CLRS (R11). -/
def clearSequence (s : State) : Answered := editing (some ()) (fun _ => clearAll) s

/-- LTRG: the entry fills its place, its counter zeroed (R85). -/
def loadTrigger (body : List Byte) (s : State) : Answered :=
  editing (readLtrg body)
    (fun r s => { s with trg := s.trg.set r.1 { entry := some r.2, count := 0 } }) s

/-- CTMR: the configuration is replaced, the per-shot state stands (R101). -/
def configureTimer (body : List Byte) (s : State) : Answered :=
  editing (readCtmr body)
    (fun r s => { s with tmr := s.tmr.modify r.1 fun m => { m with cfg := r.2 } }) s

/-- LCRV: the curve holds the points carried, or is unloaded (R163). -/
def loadCurve (body : List Byte) (s : State) : Answered :=
  editing (readLcrv body)
    (fun r s => { s with rep := { s.rep with curves := s.rep.curves.set r.1 r.2 } }) s

/-- LGRD: the record is filled, or emptied (R164). -/
def loadGrade (body : List Byte) (s : State) : Answered :=
  editing (readLgrd body)
    (fun r s => { s with rep := { s.rep with grades := s.rep.grades.set r.1 r.2 } }) s

/-! ## CBRK (R115 to R117) -/

/-- A refusal with CONFLICT: check code and item index (R178). -/
def conflict (c : Nat × Nat) (s : State) : Answered :=
  (s, Status.conflict.code :: (toBytes 1 c.1 ++ toBytes 1 c.2))

/-- The other breaker. -/
def otherBreaker (b : BreakerId) : BreakerId := if b = 0 then 1 else 0

/-- An output is claimed by a breaker configuration, when it is enabled. -/
def BrkConfig.claims (c : BrkConfig) (o : BoutId) : Bool :=
  c.enabled && (c.out52a == some o || c.out52b == some o)

/-- Check 1 of CBRK: the trip and the close input are the same input. -/
def BrkConfig.sameInput (c : BrkConfig) : Option Nat :=
  match c.trip, c.close with
  | some j, some k => if j = k then some (j.val + 1) else none
  | _, _ => none

/-- Check 2 of CBRK: the group is held by the other breaker. -/
def BrkConfig.groupTaken (c other : BrkConfig) : Bool :=
  c.group.isSome && other.enabled && other.group == c.group

/-- Check 3 of CBRK: the other breaker is on the LINE side too. -/
def BrkConfig.lineTaken (c other : BrkConfig) : Bool := c.line && other.enabled && other.line

/-- Check 4 of CBRK: an output is claimed twice; 52a is examined before 52b. -/
def BrkConfig.outputTaken (c other : BrkConfig) : Option Nat :=
  let a := c.out52a.filter fun o => c.out52b == some o || other.claims o
  let b := c.out52b.filter fun o => other.claims o
  (a.or b).map fun o => o.val + 1

/-- Check 5 of CBRK: an output is named by a committed pattern; 52a is examined before 52b. -/
def BrkConfig.outputNamed (c : BrkConfig) (q : Sequencer) : Option Nat :=
  if q.commit then
    ((c.out52a.filter fun o => patternNames q o).or
      (c.out52b.filter fun o => patternNames q o)).map fun o => o.val + 1
  else none

/-- The first conflict of a configuration that is carried enabled: check code and item (R116). -/
def cbrkConflict (s : State) (b : BreakerId) (c : BrkConfig) : Option (Nat × Nat) :=
  let other := (s.brk.get (otherBreaker b)).cfg
  let number := (otherBreaker b).val + 1
  if c.enabled then
    (c.sameInput.map fun i => (1, i)).or <|
    (if c.groupTaken other then some (2, number) else none).or <|
    (if c.lineTaken other then some (3, number) else none).or <|
    ((c.outputTaken other).map fun i => (4, i)).or <|
    (c.outputNamed s.seq).map fun i => (5, i)
  else none

/-- A breaker takes a configuration and is derived afresh; its operation list stands (R117). -/
def setBreakerConfig (b : BreakerId) (c : BrkConfig) (s : State) : State :=
  { s with brk := s.brk.modify b fun br => { br with cfg := c }.settle }

/-- CBRK (R115, R116, R117). -/
def configureBreaker (body : List Byte) (s : State) : Answered :=
  if s.seq.st.editable then
    match readCbrk body with
    | some (b, c) =>
      match cbrkConflict s b c with
      | some item => conflict item s
      | none => done (setBreakerConfig b c s).withdraw
    | none => refused .paramRange s
  else refused .wrongState s

/-! ## CMIT (R12 to R16) -/

/-- A state index is unloaded. -/
def Sequencer.unloaded (q : Sequencer) (i : StateIdx) : Bool := (q.table.get i).isNone

/-- The references of a state record, in the order of R15. -/
def StateRecord.references (r : StateRecord) : List StateIdx :=
  (if r.duration = 0 then [] else r.next.toList) ++ r.exceptions.map (·.source)

/-- The enabled trigger entries, ascending index. -/
def enabledEntries (trg : Bank TrigSlot 32) : List (TrigIdx × TrigEntry) :=
  (List.finRange 32).filterMap fun i =>
    match (trg.get i).entry with
    | some e => if e.enabled then some (i, e) else none
    | none => none

/-- The references of a trigger entry, in the order of R15. -/
def TrigEntry.references (e : TrigEntry) : List StateIdx :=
  e.filter.toList ++
    (match e.action with
     | .goto i => [i]
     | _ => [])

/-- Every reference of the sequence, in the order of R15. -/
def references (s : State) : List StateIdx :=
  (loadedRecords s.seq).flatMap (fun p => p.2.references) ++
    (enabledEntries s.trg).flatMap fun p => p.2.references

/-- The pattern names an output of an enabled breaker (check 4). -/
def StateRecord.clashes (r : StateRecord) (brk : Bank Breaker 2) : Bool :=
  (List.finRange 8).any fun o => r.pattern.get o && brk.items.any fun b => b.cfg.claims o

/-- The timers that an entry names (check 5). -/
def TrigEntry.timers (e : TrigEntry) : List TimerId :=
  (match e.event with
   | .timerStop m => [m]
   | .timerTimeout m => [m]
   | _ => []) ++
  (match e.action with
   | .startTimer m => [m]
   | .stopTimer m => [m]
   | _ => [])

/-- The breakers that an entry names (check 5). -/
def TrigEntry.breakers (e : TrigEntry) : List BreakerId :=
  (match e.event with
   | .breakerOpen b => [b]
   | .breakerClosed b => [b]
   | _ => []) ++
  (match e.action with
   | .trip b => [b]
   | .close b => [b]
   | _ => [])

/-- An entry names a timer or a breaker that is not enabled (check 5). -/
def TrigEntry.dangles (e : TrigEntry) (s : State) : Bool :=
  (e.timers.any fun m => !(s.tmr.get m).cfg.enabled) ||
    e.breakers.any fun b => !(s.brk.get b).cfg.enabled

/-- A grade record cannot be resolved (check 6). -/
def Grade.unresolved (g : Grade) (s : State) : Bool :=
  let t := (s.tmr.get g.timer).cfg
  !t.enabled || t.mode != .interval ||
    (match g.char with
     | .curve c => (s.rep.curves.get c).isNone
     | .definite _ _ => false)

/-- The filled grade records in order. -/
def filledGrades (s : State) : List (GradeId × Grade) :=
  (List.finRange 8).filterMap fun i => (s.rep.grades.get i).map fun g => (i, g)

/-- The first failing check of CMIT with its item; check 7 fails for no record that LSTA has
accepted (R14, R15). -/
def cmitConflict (s : State) : Option (Nat × Nat) :=
  (if s.seq.unloaded 0 then some (1, 0) else none).or <|
  (((references s).find? s.seq.unloaded).map fun i => (2, i.val)).or <|
  (if (s.seq.record 0).rule.mode = .immediate then none else some (3, 0)).or <|
  (((loadedRecords s.seq).find? fun p => p.2.clashes s.brk).map fun p => (4, p.1.val)).or <|
  (((enabledEntries s.trg).find? fun p => p.2.dangles s).map fun p => (5, p.1.val)).or <|
  ((filledGrades s).find? fun p => p.2.unresolved s).map fun p => (6, p.1.val + 1)

/-- A successful CMIT: the header comes into force, the commit flag is set, READY is entered, and the
output unit takes the sequence-owned outputs (R12, R16). -/
def State.commit (h : Header) (s : State) : State :=
  { s with seq := { s.seq with header := h, commit := true, st := .ready } }.refreshOutputs

/-- CMIT (R12). -/
def commitSequence (body : List Byte) (s : State) : Answered :=
  if s.seq.st.editable then
    match readCmit body with
    | some h =>
      match cmitConflict s with
      | some item => conflict item s.withdraw
      | none => done (s.commit h)
    | none => refused .paramRange s
  else refused .wrongState s

/-! ## SMAP (R64) -/

/-- The map is set: a rotation alone takes effect at once, a change of arrangement or a settle in
progress opens every contactor and begins the settle of 50 ms (R64). -/
def Synth.setMap (m : OutletMap) (now : Time) (y : Synth) : Synth :=
  if y.settle.isNone && y.map.arrangement == m.arrangement then { y with map := m }
  else { y with map := m, contactors := .fill 10 false, settle := some (after now 50000) }

/-- SMAP (R64). -/
def setMap (body : List Byte) (s : State) : Answered :=
  if s.seq.st.editable then
    match readSmap body with
    | some m => done { s with syn := deriveOutlets false s.cal.working (s.syn.setMap m s.now) }
    | none => refused .paramRange s
  else refused .wrongState s

/-! ## CINP, LRNT and GINP (R68, R78, R83) -/

/-- CINP (R68). -/
def configureInput (body : List Byte) (s : State) : Answered :=
  if s.seq.st.editable then
    match readCinp body with
    | some (k, c) =>
      if (s.inp.get k).learn.isSome then refused .wrongState s
      else done { s with inp := s.inp.modify k (Input.derive c) }
    | none => refused .paramRange s
  else refused .wrongState s

/-- LRNT is refused in the state of the input: DRY, or already LEARNING (R78). -/
def Input.cannotLearn (i : Input) : Bool := !i.cfg.wet || i.learn.isSome

/-- A request of LEN 5 uses up the free value of the byte that it does not carry (log 32). -/
def useFree (body : List Byte) (s : State) : State :=
  if body.length = 5 then { s with freeCount := s.freeCount + 1 } else s

/-- LRNT (R78); the operand byte that a request of LEN 5 does not carry is free (log 32). -/
def learnThreshold (body : List Byte) (s : State) : Answered :=
  if s.seq.st.editable then
    let free := Config.missingSplitByte s.freeCount
    let s := useFree body s
    match readLrnt body free with
    | some (k, m) =>
      if (s.inp.get k).cannotLearn then refused .wrongState s
      else done { s with inp := s.inp.modify k fun i =>
        { i with learn := some { method := m, readings := 0, sum := 0 } } }
    | none => refused .paramRange s
  else refused .wrongState s

/-- The debounce window as GINP gives it: 0 when absent. -/
def windowBytes (w : Option Window) : List Byte :=
  match w with
  | some w => flagByte true ++ toBytes 6 w.opened.toNat ++ toBytes 6 w.ends.toNat
  | none => toBytes 13 0

/-- The learning status as GINP gives it. -/
def learningBytes (l : Option Learning) : List Byte :=
  match l with
  | some l => flagByte true ++ toBytes 1 l.readings
  | none => toBytes 2 0

/-- The learning record as GINP gives it: 0 when absent. -/
def recordBytes (r : Option LearnRecord) : List Byte :=
  match r with
  | some r => flagByte true ++ flagByte r.full ++ toBytes 2 r.vOn ++ toBytes 1 r.code ++ flagByte (!r.set)
  | none => toBytes 6 0

/-- The results of GINP, 41 bytes behind the status (R83, R191). -/
def inputStatus (i : Input) : List Byte :=
  flagByte i.cfg.wet ++ toBytes 1 i.cfg.code ++ toBytes 1 i.cfg.debounce ++
  flagByte i.cfg.activeHigh ++ toBytes 1 i.cfg.limit ++
  flagByte i.raw ++ flagByte i.qual ++ flagByte i.isActive ++ windowBytes i.window ++
  flagByte i.chatter ++ flagByte (i.chatter && i.held) ++ toBytes 2 i.count ++ toBytes 2 i.reading ++
  learningBytes i.learn ++ recordBytes i.record ++
  toBytes 2 i.bounces ++ toBytes 2 i.edges ++ toBytes 2 i.periods

/-- GINP (R83). -/
def getInput (body : List Byte) (s : State) : Answered :=
  match readInput body with
  | some k => results (inputStatus (s.inp.get k)) s
  | none => refused .paramRange s

/-! ## ARM, DARM, STOP and ABRT (R19, R39 to R42) -/

/-- The sources without operand, in the order of their bits (R190). -/
def plainSources : List RejectSource :=
  [.interlockOpen, .supplySag, .outletSettling, .mapDisconnected, .mapMismatch, .learning, .reportFull,
   .noSync]

/-- A reject set as 5 bytes (R190). -/
def rejectBytes (l : List RejectSource) : List Byte :=
  toBytes 2 (bitField (plainSources.map l.contains)) ++
  toBytes 1 (bitField ((List.finRange 6).map fun o => l.contains (.outletHot o))) ++
  toBytes 2 (bitField ((List.finRange 10).map fun o => l.contains (.uncalibrated o)))

/-- The counted sources that are active (R19). -/
def countedSet (src : StartSource) (s : State) : List RejectSource :=
  (rejectSet s).filter (counted src)

/-- The engine time at which the start of an arm is due at its acceptance: for NOW at once (R19). -/
def StartSource.dueAt (src : StartSource) (now : Time) : Option Time :=
  match src with
  | .now => some now
  | .pps _ => none
  | .input _ _ => none

/-- ARM is accepted: a slot is RESERVED and ARMED is entered (R19, R156). -/
def State.arm (src : StartSource) (s : State) : State :=
  { s with
    seq := { s.seq.endContext with st := .armed, source := some src, startDue := src.dueAt s.now }
    rep := { s.rep with cur := .reserved } }

/-- ARM (R19). -/
def armShot (body : List Byte) (s : State) : Answered :=
  match s.seq.st with
  | .ready =>
    match readArm body with
    | some src =>
      match countedSet src s with
      | [] => done (s.arm src)
      | r :: rs => (s, Status.rejected.code :: rejectBytes (r :: rs))
    | none => refused .paramRange s
  | .empty | .armed | .running | .stopping | .tail => refused .wrongState s

/-- DARM (R39). -/
def disarm (s : State) : Answered :=
  match s.seq.st with
  | .armed => done (s.endArm .disarm)
  | .empty | .ready | .running | .stopping | .tail => refused .wrongState s

/-- STOP (R40). -/
def stopShot (s : State) : Answered :=
  match s.seq.st with
  | .running => done (s.softStop .stop s.now)
  | .stopping | .tail => done s
  | .empty | .ready | .armed => refused .wrongState s

/-- ABRT (R41, R42). In TAIL the NOTE of SHOT_ENDED joins the transmit order before the reply, an order that
the model chooses (log 39). -/
def abortShot (s : State) : Answered :=
  match s.seq.st with
  | .armed => done (s.endArm .disarm)
  | .running | .stopping => done (s.hardStop .abort s.now)
  | .tail => done (finalize s.now (s.addFurther .abort))
  | .empty | .ready => refused .wrongState s

/-! ## LSTR, RRPT and RELR (R168 to R171) -/

/-- LSTR (R168). -/
def listReports (s : State) : Answered :=
  results (toBytes 1 s.rep.held.length ++ s.rep.held.flatMap listBytes) s

/-- The held report that carries a shot number. -/
def ReportStore.find (r : ReportStore) (n : Nat) : Option HeldReport :=
  r.held.find? fun h => h.report.shotNo == n

/-- The body of an RRPT reply behind its status (R169, R191). -/
def sectionBody (r : Report) (sec : Section) (first : Nat) : List Byte :=
  toBytes 1 (sectionEntries r sec).length ++ toBytes 1 first ++
    toBytes 1 (sectionPart r sec first).length ++ (sectionPart r sec first).flatten

/-- A report whose HEADER entry has been carried is READ (R170). -/
def ReportStore.markRead (n : Nat) (r : ReportStore) : ReportStore :=
  { r with held := r.held.map fun h => if h.report.shotNo == n then { h with unread := false } else h }

/-- RRPT (R169, R170). -/
def readReport (body : List Byte) (s : State) : Answered :=
  match readSection (field body 2 1) with
  | none => refused .paramRange s
  | some sec =>
    match s.rep.find (field body 0 2) with
    | none => refused .notFound s
    | some h =>
      let first := field body 3 1
      results (sectionBody h.report sec first)
        (if sec = .header ∧ first = 0 then { s with rep := s.rep.markRead (field body 0 2) } else s)

/-- Every READ report is freed (R171). -/
def ReportStore.releaseRead (r : ReportStore) : ReportStore :=
  { r with held := r.held.filter fun h => h.unread }

/-- One held report is freed (R171). -/
def ReportStore.release (n : Nat) (r : ReportStore) : ReportStore :=
  { r with held := r.held.filter fun h => h.report.shotNo != n }

/-- RELR (R171). A force byte above 1 is refused with PARAM_RANGE (R190) before the number is looked
at, 0 included: the place of that check is the model's choice (log 35). -/
def releaseReport (body : List Byte) (s : State) : Answered :=
  match flagOf (field body 2 1) with
  | none => refused .paramRange s
  | some force =>
    let n := field body 0 2
    if n = 0 then done { s with rep := s.rep.releaseRead }
    else
      match s.rep.find n with
      | none => refused .notFound s
      | some h =>
        if h.unread && !force then refused .unreadReport s
        else done { s with rep := s.rep.release n }

/-! ## The link's own messages (R182 to R189) -/

/-- The notice mask is replaced; a NOTE becomes due when it enables a pending kind (R182). -/
def Link.setMask (mask : Bank Bool 12) (l : Link) : Link :=
  let l' := { l with mask }
  if (List.finRange 12).any fun i => l'.reportable i && !l.reportable i then l'.dueNote else l'

/-- NMSK (R182). A NOTE that it makes due joins the transmit order before its reply, an order that the model
chooses (log 39). -/
def setNoticeMask (body : List Byte) (s : State) : Answered :=
  match readNotices body with
  | some mask => done { s with link := s.link.setMask mask }
  | none => refused .paramRange s

/-- The named kinds leave the pending set (R183). -/
def Link.acknowledge (kinds : Bank Bool 12) (l : Link) : Link :=
  { l with noticeSet := l.noticeSet.mapIdx fun i p => p && !kinds.get i }

/-- NACK (R183). -/
def acknowledgeNotices (body : List Byte) (s : State) : Answered :=
  match readNotices body with
  | some kinds => done { s with link := s.link.acknowledge kinds }
  | none => refused .paramRange s

/-- The code of a strap level. -/
def strapCode : Strap → Nat
  | .level0 => 0
  | .levelR => 1
  | .levelF => 2
  | .level1 => 3

/-- GINF (R184). -/
def getInformation (s : State) : Answered :=
  results (toBytes 2 Config.partCode ++ toBytes 1 Config.revision ++
    toBytes 4 ((s.cal.serial.map (·.toNat)).getD 0) ++ toBytes 1 (strapCode s.link.strap) ++
    flagByte (strapService s.link.strap)) s

/-- The code of a sequencer state. -/
def SeqState.code : SeqState → Nat
  | .empty => 0
  | .ready => 1
  | .armed => 2
  | .running => 3
  | .stopping => 4
  | .tail => 5

/-- The code of a reject source as a cancel reason, and its operand (R191). -/
def RejectSource.code : RejectSource → Nat × Nat
  | .interlockOpen => (2, 0)
  | .supplySag => (3, 0)
  | .outletSettling => (4, 0)
  | .mapDisconnected => (5, 0)
  | .mapMismatch => (6, 0)
  | .learning => (7, 0)
  | .reportFull => (8, 0)
  | .noSync => (9, 0)
  | .outletHot o => (10, (outletOf o).val)
  | .uncalibrated o => (11, o.val)

/-- The code of a cancel reason, and its operand (R191). -/
def CancelReason.code : CancelReason → Nat × Nat
  | .never => (0, 0)
  | .disarm => (1, 0)
  | .source r => r.code

/-- A breaker as GSTA gives it: DISABLED or its state (R114, R191). -/
def Breaker.code (b : Breaker) : Nat := if b.cfg.enabled then b.st.code else 0

/-- The slots in FREE: those not held and not current (R155). -/
def ReportStore.freeSlots (r : ReportStore) : Nat :=
  16 - r.held.length - (if r.cur = .noSlot then 0 else 1)

/-- The slots in each state, a byte each (R185). -/
def ReportStore.slotBytes (r : ReportStore) : List Byte :=
  toBytes 1 r.freeSlots ++ flagByte (r.cur == .reserved) ++ flagByte (r.cur == .filling) ++
    toBytes 1 (r.held.filter (·.unread)).length ++ toBytes 1 (r.held.filter (!·.unread)).length

/-- The results of GSTA, 39 bytes behind the status (R185, R191). -/
def statusBytes (s : State) : List Byte :=
  toBytes 1 s.seq.st.code ++ flagByte s.seq.commit ++ toBytes 2 s.seq.shotNo ++
  toBytes 1 s.seq.cancel.code.1 ++ toBytes 1 s.seq.cancel.code.2 ++ rejectBytes (rejectSet s) ++
  flagByte s.syn.map.reversed ++ toBytes 1 s.syn.map.arrangement.code ++
  flagByte s.syn.settle.isSome ++ toBytes 1 s.tb.sync.code ++ flagByte s.tb.glitch ++
  toBytes 1 (s.brk.get 0).code ++ toBytes 1 (s.brk.get 1).code ++
  ((List.finRange 6).flatMap fun o => toBytes 2 (usageOf s o)) ++ s.rep.slotBytes ++
  setBytes 2 s.link.noticeSet ++ setBytes 2 s.link.mask

/-- GSTA: the glitch flag, once carried, is cleared (R134, R185). -/
def getStatus (s : State) : Answered :=
  results (statusBytes s) { s with tb := { s.tb with glitch := false } }

/-- The code of a check status. -/
def CalStatus.code : CalStatus → Nat
  | .good => 0
  | .defaulted => 1
  | .written => 2

/-- RCAL (R188). -/
def readCalibration (body : List Byte) (s : State) : Answered :=
  match readOutlet body with
  | some o =>
    let r := s.cal.working.get o
    results (toBytes 4 r.gain ++ signedBytes 2 r.offset ++ toBytes 2 r.rating ++
      toBytes 6 r.capacity ++ toBytes 1 (s.cal.status.get o).code) s
  | none => refused .paramRange s

/-- What the checks of WCAL leave: the write that begins, or the refusal (R189). -/
def checkWcal (body : List Byte) (s : State) : Except Status CalWrite :=
  if !strapService s.link.strap then .error .serviceOnly
  else if !s.seq.st.editable then .error .wrongState
  else
    match readWcal body with
    | some (outlet, fields) => .ok { outlet, fields }
    | none => .error .paramRange

end Sys2Proof.Machine
end

