-- ==== Sys2Proof/Machine/TimeSync.lean ====
section
/-! DEFINITION. The time base (08): the classes of a pulse, the sync state, and the handing on of a
valid pulse. -/

namespace Sys2Proof.Machine

/-- The classes of a pulse (R133). -/
inductive PulseClass where
  | first | glitch | valid | late
deriving DecidableEq, Repr

/-- A pulse at `p` classified against L (R133). -/
def classify (latest : Option Time) (p : Time) : PulseClass :=
  match latest with
  | none => .first
  | some l =>
    if elapsed l p < 999800 then .glitch
    else if elapsed l p ≤ 1000200 then .valid
    else .late

/-- The time base after a capture at `p` (R133). -/
def capture (sync : Sync) (p : Time) (s : State) : State :=
  let s' := { s with tb := { s.tb with latest := some p, sync } }
  if s.tb.sync = sync then s' else s'.raise .syncChanged

/-- NO_SYNC becomes active by a change of the sync state, and cancels a PPS arm (R21, R137). Its
ARM_CANCELLED comes after the SYNC_CHANGED of the change, an order that the model chooses (log 34). -/
def lossOfSync (before : Sync) (s : State) : State :=
  if !before.lost && s.tb.sync.lost then s.rejectRises .noSync else s

/-- The sequencer takes a valid pulse while ARMED for PPS(n): it counts, and the nth makes the start
due (R20, R138). -/
def countPulse (p : Time) (s : State) : State :=
  match s.seq.st, s.seq.source, s.seq.startDue with
  | .armed, some (.pps n), none =>
    { s with seq := { s.seq with
        ppsCount := s.seq.ppsCount + 1
        startDue := if n ≤ s.seq.ppsCount + 1 then some p else none } }
  | _, _, _ => s

/-- A valid pulse at `p` ends the wait of an AT_PPS transition requested before it and not more than
1,000,200 µs before (R27, R139). -/
def Pending.awaits (q : Pending) (p : Time) : Bool :=
  q.rule.mode == .atPps && q.pulse.isNone && isAfter q.request p &&
    decide (elapsed q.request p ≤ 1000200)

/-- The sequencer takes a valid pulse while RUNNING with a transition pending (R139). The pulse that
completes the lock from ACQUIRING ends the wait too, as R26, R133, R136 and R139 say; R27 calls a pulse
captured in ACQUIRING not valid. That the model follows the others is its choice (log 38). -/
def endWait (p : Time) (s : State) : State :=
  match s.seq.st, s.seq.pend with
  | .running, some q =>
    if q.awaits p then { s with seq := { s.seq with pend := some { q with pulse := some p } } } else s
  | _, _ => s

/-- The entry that a pulse brings about at its own tick, taken before the pulse is routed (R139), unless
a ramp step or an expiry of that tick comes before the entry (R29). -/
def entryAtPulse (p : Time) (s : State) : State :=
  match s.seq.st, s.seq.pend with
  | .running, some q =>
    if q.pulse = some p ∧ tickAtOrAfter s.clock.anchor p = p ∧ entryMayGo s.seq p then
      takeEntry q p false false s
    else s
  | _, _ => s

/-- A valid pulse is handed to the sequencer, which counts it or ends a wait (R136). -/
def handPulse (p : Time) (entryFirst : Bool) (s : State) : State :=
  let s := endWait p (countPulse p s)
  if entryFirst then entryAtPulse p s else s

/-- PPS_PULSE at `p` (R133, R134, R136). -/
def ppsPulse (p : Time) (entryFirst : Bool) (s : State) : State :=
  match classify s.tb.latest p with
  | .glitch => { s with tb := { s.tb with glitch := true } }
  | .first => lossOfSync s.tb.sync (capture .acquiring p s)
  | .late => lossOfSync s.tb.sync (capture .acquiring p s)
  | .valid =>
    route { kind := .pps, time := p, routed := p } (handPulse p entryFirst (capture .locked p s))

/-- HOLDOVER_ENTRY: at L + 1,000,201 µs LOCKED passes to HOLDOVER (R135). -/
def holdoverEntry (s : State) : State :=
  match s.tb.sync, s.tb.latest with
  | .locked, some l =>
    let s := s.advance (after l 1000201)
    { s with tb := { s.tb with sync := .holdover } }.raise .syncChanged
  | _, _ => s

/-- The fall to NO_SYNC, L cleared (R135). -/
def fallToNoSync (l : Time) (s : State) : State :=
  let before := s.tb.sync
  let s := s.advance (after l 5000000)
  lossOfSync before ({ s with tb := { s.tb with latest := none, sync := .noSync } }.raise .syncChanged)

/-- SYNC_TIMEOUT: at L + 5,000,000 µs HOLDOVER and ACQUIRING fall to NO_SYNC (R135). -/
def syncTimeout (s : State) : State :=
  match s.tb.sync, s.tb.latest with
  | .holdover, some l => fallToNoSync l s
  | .acquiring, some l => fallToNoSync l s
  | _, _ => s

end Sys2Proof.Machine
end

