-- ==== Sys2Proof/Machine/Link.lean ====
section
/-! DEFINITION. The link interface (11): the execution of requests and their replies, the request
queue, BUSY, the receive assembler, the completion of a calibration write, and the transmitter. -/

namespace Sys2Proof.Machine

/-! ## Execution (R178) -/

/-- What executing a request leads to: a reply formed at once, the reply of ERST, or a calibration
write that holds the queue (R176, R179, R186). -/
inductive Response where
  | reply (body : List Byte)
  | reset
  | writing (w : CalWrite)
deriving DecidableEq, Repr

/-- A message whose reply is formed at once. -/
def atOnce (r : Answered) : State × Response := (r.1, .reply r.2)

/-- WCAL: refused at once, or a write begins (R179, R189). -/
def writeCalibration (body : List Byte) (s : State) : State × Response :=
  match checkWcal body s with
  | .ok w => ({ s with cal := { s.cal with write := some w } }, .writing w)
  | .error why => atOnce (refused why s)

/-- A request of a known kind and an allowed length goes to the block that owns its kind (R175). -/
def message (kind : Byte) (body : List Byte) (s : State) : State × Response :=
  match kind.toNat with
  | 0x01 => atOnce (getInformation s)
  | 0x02 => atOnce (getStatus s)
  | 0x03 => (s, .reset)
  | 0x04 => atOnce (setNoticeMask body s)
  | 0x05 => atOnce (acknowledgeNotices body s)
  | 0x06 => atOnce (readCalibration body s)
  | 0x07 => writeCalibration body s
  | 0x10 => atOnce (loadState body s)
  | 0x11 => atOnce (clearSequence s)
  | 0x12 => atOnce (commitSequence body s)
  | 0x13 => atOnce (loadTrigger body s)
  | 0x14 => atOnce (configureTimer body s)
  | 0x15 => atOnce (configureBreaker body s)
  | 0x16 => atOnce (loadCurve body s)
  | 0x17 => atOnce (loadGrade body s)
  | 0x20 => atOnce (setMap body s)
  | 0x21 => atOnce (configureInput body s)
  | 0x22 => atOnce (learnThreshold body s)
  | 0x23 => atOnce (getInput body s)
  | 0x30 => atOnce (armShot body s)
  | 0x31 => atOnce (disarm s)
  | 0x32 => atOnce (stopShot s)
  | 0x33 => atOnce (abortShot s)
  | 0x50 => atOnce (listReports s)
  | 0x51 => atOnce (readReport body s)
  | 0x52 => atOnce (releaseReport body s)
  | _ => atOnce (refused .unknownKind s)

/-- The execution of a request: its kind, its length, and then its own rule (R178). -/
def respond (f : Frame) (s : State) : State × Response :=
  if !messageCodes.contains f.kind then atOnce (refused .unknownKind s)
  else if !lengthOk f.kind f.body then atOnce (refused .badLength s)
  else message f.kind f.body s

/-- The frame that answers a request: its KIND with the top bit set, its TAG (R178). -/
def replyTo (f : Frame) (body : List Byte) : Frame := { kind := f.kind ||| 0x80, tag := f.tag, body }

/-! ## The request queue (R176) -/

/-- The replies to executed requests that stand in the transmit order (R176). -/
def Link.replies (l : Link) : Nat :=
  (l.order.filter fun f => f.what == .reply || f.what == .resetReply).length

/-- The BUSY replies that stand in the transmit order (R177). -/
def Link.busies (l : Link) : Nat := (l.order.filter fun f => f.what == .busy).length

/-- The executing request can be executed: no write holds the queue, no reset is awaited, and fewer
than two replies stand in the transmit order (R176, R179, R186). -/
def mayExecute (s : State) : Bool :=
  s.cal.write.isNone && !s.link.resetting && decide (s.link.replies < 2)

/-- A reply as a frame of the transmit order. -/
def replyFrame (what : TxKind) (f : Frame) (body : List Byte) : TxFrame :=
  { what, formed := true, frame := replyTo f body }

/-- The executing request leaves the queue. -/
def Link.dequeue (l : Link) : Link := { l with queue := l.queue.tail }

/-- The reply of the executing request joins the transmit order, and the request leaves the queue
(R176, R177). -/
def answer (what : TxKind) (f : Frame) (body : List Byte) (s : State) : State :=
  { s with link := s.link.dequeue.join (replyFrame what f body) }

/-- The ERST reply is formed: no further request is executed, and a waiting one is discarded
(R186). -/
def beginReset (f : Frame) (s : State) : State :=
  let s := answer .resetReply f [Status.ok.code] s
  { s with link := { s.link with resetting := true, queue := [] } }

/-- The executing request is executed (R176). -/
def execute (f : Frame) (s : State) : State :=
  match respond f s with
  | (s, .reply body) => answer .reply f body s
  | (s, .reset) => beginReset f s
  | (s, .writing _) => s

/-- The queue is served while its executing request can be executed; `fuel` bounds the requests, of
which the queue holds at most two (R176). -/
def serve : Nat → State → State
  | 0, s => s
  | fuel + 1, s =>
    match s.link.queue with
    | [] => s
    | f :: _ => if mayExecute s then serve fuel (execute f s) else s

/-- BUSY: the frame is answered ahead of the requests held, or discarded with LINK_ERROR when two
BUSY replies stand in the transmit order (R176, R177). -/
def refuseBusy (f : Frame) (s : State) : State :=
  if s.link.busies < 2 then
    { s with link := s.link.join (replyFrame .busy f [Status.busy.code]) }
  else s.raise .linkError

/-- A good frame is handed to the request queue (R176); one that completes while an engine reset is
awaited is discarded (R186). -/
def submit (f : Frame) (s : State) : State :=
  if s.link.resetting then s
  else if s.link.queue.length < 2 then
    serve 2 { s with link := { s.link with queue := s.link.queue ++ [f] } }
  else refuseBusy f s

/-! ## The receive assembler (R173, R174) -/

/-- A frame is abandoned or fails: LINK_ERROR, and the assembler hunts (R173, R174). -/
def abandon (s : State) : State :=
  { s with link := { s.link with rx := { s.link.rx with phase := .hunting } } }.raise .linkError

/-- A character taken in HUNTING (R173). -/
def hunt (t : Time) (ch : Byte) (a : Assembler) : Assembler :=
  if ch = 0xC5 then { a with phase := .length, len := 0, tag := 0, kind := 0, body := [], last := t }
  else a

/-- A character taken within a frame, other than the last (R173). -/
def collect (t : Time) (ch : Byte) (a : Assembler) : Assembler :=
  let a := { a with last := t }
  match a.phase with
  | .hunting => a
  | .length => { a with phase := .tag, len := ch.toNat }
  | .tag => { a with phase := .kind, tag := ch }
  | .kind => { a with phase := if a.len = 0 then .crcHigh else .body, kind := ch }
  | .body =>
    { a with phase := if a.len ≤ a.body.length + 1 then .crcHigh else .body, body := a.body ++ [ch] }
  | .crcHigh => { a with phase := .crcLow, crcHigh := ch }
  | .crcLow => { a with phase := .hunting }

/-- The frame that the assembler holds. -/
def Assembler.frame (a : Assembler) : Frame := { kind := a.kind, tag := a.tag, body := a.body }

/-- The last CRC byte: the frame is checked (R174). -/
def completeFrame (low : Byte) (s : State) : State :=
  let a := s.link.rx
  let s := { s with link := { s.link with rx := { a with phase := .hunting } } }
  if crc (frameCore a.frame) = a.crcHigh ++ low then submit a.frame s else s.raise .linkError

/-- The assembler takes one character in its state (R173). -/
def takeCharacter (t : Time) (ch : Byte) (s : State) : State :=
  let a := s.link.rx
  match a.phase with
  | .hunting => { s with link := { s.link with rx := hunt t ch a } }
  | .length =>
    if 250 < ch.toNat then abandon s else { s with link := { s.link with rx := collect t ch a } }
  | .tag | .kind | .body | .crcHigh => { s with link := { s.link with rx := collect t ch a } }
  | .crcLow => completeFrame ch s

/-- The gap between two characters of a frame is too long (R173). -/
def Assembler.late (a : Assembler) (t : Time) : Bool :=
  a.phase != .hunting && decide (2000 < elapsed a.last t)

/-- RX_CHARACTER: a character at engine time `t`, or a character error (R173). -/
def receive (t : Time) (ch : Byte) (stopBit : Bool) (s : State) : State :=
  let s := if s.link.rx.late t then abandon s else s
  if stopBit then takeCharacter t ch s
  else if s.link.rx.phase = .hunting then s
  else abandon s

/-! ## The end of a calibration write (R147, R189) -/

/-- An outlet's accumulator is limited to its new capacity (R147). -/
def limitHeat (w : CalWrite) (th : Bank Thermal 6) : Bank Thermal 6 :=
  th.mapIdx fun o h =>
    if outletOf o = w.outlet then { h with heat := min h.heat w.fields.capacity } else h

/-- The record stands in the memory with a fresh CRC and in the working copy, with status WRITTEN
(R189). -/
def Calibration.finish (w : CalWrite) (c : Calibration) : Calibration :=
  { c with stored := c.stored.set w.outlet (.fresh w.outlet w.fields),
           working := c.working.set w.outlet w.fields,
           status := c.status.set w.outlet .written, write := none }

/-- WCAL_WRITE_COMPLETE: the reply is formed, and the queue is served (R176, R189). -/
def writeComplete (s : State) : State :=
  match s.cal.write, s.link.queue with
  | some w, f :: _ =>
    let s := { s with cal := s.cal.finish w,
                      sup := { s.sup with thermal := limitHeat w s.sup.thermal } }
    serve 2 (answer .reply f [Status.ok.code] s)
  | _, _ => s

end Sys2Proof.Machine
end

