-- ==== Sys2Proof/Machine/Reset.lean ====
section
/-! DEFINITION. The resets (R38, R172, R186, R187): power-on, assertion and release of RSTN, the
engine reset, the loss of power, and the transmitter, whose last ERST character is the engine reset. -/

namespace Sys2Proof.Machine

/-! ## The calibration memory (R187, R189) -/

/-- A write in progress is interrupted: the memory holds the fields that were being written, under a
CRC that is a free value (R189, log 7). -/
def Calibration.interrupt (n : Nat) (c : Calibration) : Calibration :=
  match c.write with
  | some w =>
    { c with stored := c.stored.set w.outlet { fields := w.fields, crc := Config.interruptedCrc n },
             write := none }
  | none => c

/-- A calibration write in progress is interrupted; the free value it reads is used up (R189, log 7). -/
def State.interruptWrite (s : State) : State :=
  match s.cal.write with
  | some _ => { s with cal := s.cal.interrupt s.freeCount, freeCount := s.freeCount + 1 }
  | none => s

/-- A record passes its check: its CRC is that of its fields, and every field is in range (R187). -/
def Stored.passes (o : Outlet) (r : Stored) : Bool :=
  r.crc == Machine.crc (r.fields.bytes o) && calInRange o r.fields

/-- The serial number of an identity record that passes its check (R184). -/
def Identity.checked (i : Identity) : Option (BitVec 32) :=
  if i.crc = Identity.crcOf i.serial then some i.serial else none

/-- The check of the eleven records: working copies, check statuses and the serial number (R184,
R187). -/
def Calibration.check (c : Calibration) : Calibration :=
  { c with
    working := c.stored.mapIdx fun o r => if r.passes o then r.fields else .default o
    status := c.stored.mapIdx fun o r => if r.passes o then .good else .defaulted
    serial := c.identity.checked }

/-- The thermal accounts set from the working copy (R142). -/
def initialThermal (working : Bank CalRecord 10) : Bank Thermal 6 :=
  .ofFn fun o => .initial (working.get (outletOf o)).capacity

/-! ## Power-on and RSTN (R38, R172) -/

/-- An input that takes its default configuration at its terminals (R67). -/
def Input.restart (term : Terminal) (reading : Nat) : Input :=
  ({ Input.initial with term, reading }).derive .default

/-- The link after a reset: STARTED pending, and its NOTE due when it is enabled (R172, R186). A frame
being received is abandoned with the reset, also when its last character is taken after it (log 36). -/
def Link.restart (strap : Strap) (mask : Bank Bool 12) : Link :=
  let l : Link :=
    { strap, rx := .initial, queue := [], order := [], noteDue := false, resetting := false,
      noticeSet := (Bank.fill 12 false).set Notice.started.bit true, mask }
  if mask.get Notice.started.bit then l.dueNote else l

/-- The engine starts, at power-on or at the release of RSTN (R172, R184, R187). -/
def State.start (pins : Pins) (s : State) : State :=
  let s := s.interruptWrite
  let cal := s.cal.check
  { State.reset with
    freeCount := s.freeCount
    inp := pins.terms.map fun t => .restart t 0
    sup := { Supervision.initial with thermal := initialThermal cal.working,
                                      interlockOpen := pins.interlockOpen }
    cal
    link := .restart pins.strap (.fill 12 true)
    pending := s.pending }

/-- Assertion of RSTN: every block takes its reset values, and the link is idle with ATN low (R38,
R172, log 11). -/
def State.hold (s : State) : State :=
  let s := s.interruptWrite
  { State.reset with
    power := .held
    now := s.now
    freeCount := s.freeCount
    inp := s.inp.map fun i => .restart i.term 0
    sup := { Supervision.initial with thermal := initialThermal s.cal.working,
                                      interlockOpen := s.sup.interlockOpen }
    cal := s.cal
    link := { Link.restart s.link.strap (.fill 12 true) with order := [], noticeSet := .fill 12 false }
    pending := s.pending }

/-- The loss of power (R189, log 28). -/
def State.lose (s : State) : State :=
  let s := s.interruptWrite
  { s with power := .off,
           link := { s.link with queue := [], order := [], noteDue := false, resetting := false } }

/-! ## The engine reset (R38, R186) -/

/-- The values of an engine reset, block by block (R1, R18, R38, R43, R61, R67, R84, R100, R114, R130,
R155, R162, R186). -/
def State.engineReset (s : State) : State :=
  { s with
    seq := { Sequencer.initial with shotNo := s.seq.shotNo, t0 := s.seq.t0 }
    syn := { Synth.initial with map := { s.syn.map with arrangement := .disconnected } }
    inp := s.inp.map fun i => .restart i.term i.reading
    trg := State.reset.trg
    tmr := State.reset.tmr
    brk := State.reset.brk
    out := State.reset.out
    rep := .initial
    link := .restart s.link.strap s.link.mask }

/-- The frame being sent is the reply of ERST. -/
def Link.resetAtHead (l : Link) : Bool :=
  match l.order with
  | f :: _ => f.what == .resetReply
  | [] => false

/-- ENGINE_RESET: the last character of the ERST reply has been sent (R186, log 21). -/
def engineReset (s : State) : State := if s.link.resetAtHead then s.engineReset else s

/-! ## The transmitter (R177, R181) -/

/-- A further NOTE that became due while one was being sent joins once that one has left (log 12). -/
def Link.afterNote (sent : TxFrame) (l : Link) : Link :=
  if sent.what = .note ∧ l.noteDue then { l with noteDue := false, order := l.order ++ [waitingNote] }
  else l

/-- The transmitter takes up the first frame of its order. -/
def State.transmit (s : State) : State := { s with link := s.link.transmit }

/-- The frame at the head has been sent: the next begins, and the queue is served, in the order that
`serveFirst` gives (R176, R177, log 8). -/
def leaveOrder (sent : TxFrame) (rest : List TxFrame) (serveFirst : Bool) (s : State) : State :=
  let s := { s with link := { s.link with order := rest }.afterNote sent }
  if serveFirst then (serve 2 s).transmit else serve 2 s.transmit

/-- FRAME_SENT: the transmitter has finished a frame; that of ERST's reply is the engine reset (R177,
R186). -/
def frameSent (serveFirst : Bool) (s : State) : State :=
  match s.link.order with
  | [] => s
  | f :: rest =>
    if f.what = .resetReply then s.engineReset else leaveOrder f rest serveFirst s

end Sys2Proof.Machine
end

