-- ==== Sys2Proof/Machine/RequestCommands.lean ====
section
/-! DEFINITION. The meanings of the request commands: each frame reaches the link interface at its
engine time with its TAG and body, and is queued, executed and answered by the rules of 11. -/

namespace Sys2Proof.Machine

/-- The outcome of a command. -/
abbrev Answer := Host.Outcome State Fault Refusal

/-- What the engine does while it runs; without power, or held by RSTN, it does nothing (R172,
log 11). -/
def whenUp (f : State → State) (s : State) : State :=
  match s.power with
  | .up => f s
  | .held => s
  | .off => s

/-- A good frame is complete at engine time `t` (R174, R176). -/
def request (t : Time) (f : Frame) (s : State) : State := whenUp (fun s => submit f (s.advance t)) s

/-- GINF (R184). -/
def execGinf (t : Time) (tag : Byte) (body : List Byte) (s : State) : Answer :=
  .next (request t { kind := 0x01, tag, body } s)

/-- GSTA (R185). -/
def execGsta (t : Time) (tag : Byte) (body : List Byte) (s : State) : Answer :=
  .next (request t { kind := 0x02, tag, body } s)

/-- ERST (R186). -/
def execErst (t : Time) (tag : Byte) (body : List Byte) (s : State) : Answer :=
  .next (request t { kind := 0x03, tag, body } s)

/-- NMSK (R182). -/
def execNmsk (t : Time) (tag : Byte) (body : List Byte) (s : State) : Answer :=
  .next (request t { kind := 0x04, tag, body } s)

/-- NACK (R183). -/
def execNack (t : Time) (tag : Byte) (body : List Byte) (s : State) : Answer :=
  .next (request t { kind := 0x05, tag, body } s)

/-- RCAL (R188). -/
def execRcal (t : Time) (tag : Byte) (body : List Byte) (s : State) : Answer :=
  .next (request t { kind := 0x06, tag, body } s)

/-- WCAL (R189). -/
def execWcal (t : Time) (tag : Byte) (body : List Byte) (s : State) : Answer :=
  .next (request t { kind := 0x07, tag, body } s)

/-- LSTA (R10). -/
def execLsta (t : Time) (tag : Byte) (body : List Byte) (s : State) : Answer :=
  .next (request t { kind := 0x10, tag, body } s)

/-- CLRS (R11). -/
def execClrs (t : Time) (tag : Byte) (body : List Byte) (s : State) : Answer :=
  .next (request t { kind := 0x11, tag, body } s)

/-- CMIT (R12). -/
def execCmit (t : Time) (tag : Byte) (body : List Byte) (s : State) : Answer :=
  .next (request t { kind := 0x12, tag, body } s)

/-- LTRG (R85). -/
def execLtrg (t : Time) (tag : Byte) (body : List Byte) (s : State) : Answer :=
  .next (request t { kind := 0x13, tag, body } s)

/-- CTMR (R101). -/
def execCtmr (t : Time) (tag : Byte) (body : List Byte) (s : State) : Answer :=
  .next (request t { kind := 0x14, tag, body } s)

/-- CBRK (R115). -/
def execCbrk (t : Time) (tag : Byte) (body : List Byte) (s : State) : Answer :=
  .next (request t { kind := 0x15, tag, body } s)

/-- LCRV (R163). -/
def execLcrv (t : Time) (tag : Byte) (body : List Byte) (s : State) : Answer :=
  .next (request t { kind := 0x16, tag, body } s)

/-- LGRD (R164). -/
def execLgrd (t : Time) (tag : Byte) (body : List Byte) (s : State) : Answer :=
  .next (request t { kind := 0x17, tag, body } s)

/-- SMAP (R64). -/
def execSmap (t : Time) (tag : Byte) (body : List Byte) (s : State) : Answer :=
  .next (request t { kind := 0x20, tag, body } s)

/-- CINP (R68). -/
def execCinp (t : Time) (tag : Byte) (body : List Byte) (s : State) : Answer :=
  .next (request t { kind := 0x21, tag, body } s)

/-- LRNT (R78). -/
def execLrnt (t : Time) (tag : Byte) (body : List Byte) (s : State) : Answer :=
  .next (request t { kind := 0x22, tag, body } s)

/-- GINP (R83). -/
def execGinp (t : Time) (tag : Byte) (body : List Byte) (s : State) : Answer :=
  .next (request t { kind := 0x23, tag, body } s)

/-- ARM (R19). -/
def execArm (t : Time) (tag : Byte) (body : List Byte) (s : State) : Answer :=
  .next (request t { kind := 0x30, tag, body } s)

/-- DARM (R39). -/
def execDarm (t : Time) (tag : Byte) (body : List Byte) (s : State) : Answer :=
  .next (request t { kind := 0x31, tag, body } s)

/-- STOP (R40). -/
def execStop (t : Time) (tag : Byte) (body : List Byte) (s : State) : Answer :=
  .next (request t { kind := 0x32, tag, body } s)

/-- ABRT (R41). -/
def execAbrt (t : Time) (tag : Byte) (body : List Byte) (s : State) : Answer :=
  .next (request t { kind := 0x33, tag, body } s)

/-- LSTR (R168). -/
def execLstr (t : Time) (tag : Byte) (body : List Byte) (s : State) : Answer :=
  .next (request t { kind := 0x50, tag, body } s)

/-- RRPT (R169). -/
def execRrpt (t : Time) (tag : Byte) (body : List Byte) (s : State) : Answer :=
  .next (request t { kind := 0x51, tag, body } s)

/-- RELR (R171). -/
def execRelr (t : Time) (tag : Byte) (body : List Byte) (s : State) : Answer :=
  .next (request t { kind := 0x52, tag, body } s)

/-- UNKNOWN_KIND_REQUEST (R178). -/
def execUnknownKindRequest (t : Time) (tag kind : Byte) (body : List Byte) (s : State) : Answer :=
  .next (request t { kind, tag, body } s)

end Sys2Proof.Machine
end

