-- ==== Sys2Proof/Machine/EventCommands.lean ====
section
/-! DEFINITION. The meanings of the event commands: pins, the line, due instants and periodic
instants. An event whose condition does not stand leaves the state as it is (log 4). -/

namespace Sys2Proof.Machine

/-- POWER_ON (R172, R187; a start while the engine runs is a power cycle, log 29). -/
def execPowerOn (pins : Pins) (s : State) : Answer :=
  .next (s.start pins)

/-- RSTN_ASSERT (R38, R172). -/
def execRstnAssert (t : Time) (s : State) : Answer :=
  .next (whenUp (fun s => (s.advance t).hold) s)

/-- RSTN_RELEASE (R172; only an engine held by RSTN is released, log 11). -/
def execRstnRelease (pins : Pins) (s : State) : Answer :=
  .next (match s.power with
    | .held => s.start pins
    | .up => s
    | .off => s)

/-- ENGINE_RESET (R186). -/
def execEngineReset (t : Time) (s : State) : Answer :=
  .next (whenUp (fun s => engineReset (s.advance t)) s)

/-- RX_CHARACTER (R173). -/
def execRxCharacter (t : Time) (ch : Byte) (stopBit : Bool) (s : State) : Answer :=
  .next (whenUp (fun s => receive (s.advance t).now ch stopBit (s.advance t)) s)

/-- FRAME_SENT (R177). -/
def execFrameSent (t : Time) (serveFirst : Bool) (s : State) : Answer :=
  .next (whenUp (fun s => frameSent serveFirst (s.advance t)) s)

/-- WCAL_WRITE_COMPLETE (R189). -/
def execWcalWriteComplete (t : Time) (s : State) : Answer :=
  .next (whenUp (fun s => writeComplete (s.advance t)) s)

/-- SAMPLE_TICK (R50). -/
def execSampleTick (s : State) : Answer :=
  .next (whenUp sampleTick s)

/-- SHOT_START (R22). -/
def execShotStart (s : State) : Answer :=
  .next (whenUp shotStart s)

/-- DURATION_EXPIRY (R24). -/
def execDurationExpiry (s : State) : Answer :=
  .next (whenUp durationExpiry s)

/-- RAMP_STEP (R30). -/
def execRampStep (s : State) : Answer :=
  .next (whenUp rampStep s)

/-- TRANSITION_ENTRY (R28). -/
def execTransitionEntry (s : State) : Answer :=
  .next (whenUp transitionEntry s)

/-- LENGTH_LIMIT (R31). -/
def execLengthLimit (s : State) : Answer :=
  .next (whenUp lengthLimit s)

/-- FORCED_CUT (R33). -/
def execForcedCut (s : State) : Answer :=
  .next (whenUp forcedCut s)

/-- TAIL_EXPIRY (R36). -/
def execTailExpiry (s : State) : Answer :=
  .next (whenUp tailExpiry s)

/-- RAW_TRANSITION (R70). -/
def execRawTransition (t : Time) (k : InputId) (term : Terminal) (s : State) : Answer :=
  .next (whenUp (fun s => terminalChange k term (s.advance t)) s)

/-- DEBOUNCE_WINDOW_END (R71). -/
def execDebounceWindowEnd (k : InputId) (sched : List Nat) (s : State) : Answer :=
  .next (whenUp (debounceEnd k sched) s)

/-- CHATTER_WINDOW_BOUNDARY (R75, R76). -/
def execChatterWindowBoundary (sched : List Nat) (s : State) : Answer :=
  .next (whenUp (chatterBoundary sched) s)

/-- SUPPLY_CHECK (R149). -/
def execSupplyCheck (sagLow : Bool) (volts : Bank Nat 10) (s : State) : Answer :=
  .next (whenUp (supplyCheck sagLow volts) s)

/-- LEARNING_END (R81). -/
def execLearningEnd (k : InputId) (s : State) : Answer :=
  .next (whenUp (learningEnd k) s)

/-- SUPERVISION_INTERVAL (R143). -/
def execSupervisionInterval (sched : List Nat) (s : State) : Answer :=
  .next (whenUp (supervise sched) s)

/-- INTERLOCK_OPENING (R151). -/
def execInterlockOpening (t : Time) (s : State) : Answer :=
  .next (whenUp (fun s => interlockOpens (s.advance t).now (s.advance t)) s)

/-- INTERLOCK_CLOSING (R151). -/
def execInterlockClosing (t : Time) (s : State) : Answer :=
  .next (whenUp (fun s => interlockCloses (s.advance t)) s)

/-- PPS_PULSE (R133). -/
def execPpsPulse (t : Time) (entryFirst : Bool) (s : State) : Answer :=
  .next (whenUp (fun s => ppsPulse (s.advance t).now entryFirst (s.advance t)) s)

/-- HOLDOVER_ENTRY (R135). -/
def execHoldoverEntry (s : State) : Answer :=
  .next (whenUp holdoverEntry s)

/-- SYNC_TIMEOUT (R135). -/
def execSyncTimeout (s : State) : Answer :=
  .next (whenUp syncTimeout s)

/-- OUTLET_SETTLE_END (R65). -/
def execOutletSettleEnd (s : State) : Answer :=
  .next (whenUp settleEnd s)

/-- TIMER_TIMEOUT (R112). -/
def execTimerTimeout (m : TimerId) (s : State) : Answer :=
  .next (whenUp (timerTimeout m) s)

/-- BREAKER_OPEN_COMPLETE (R121). -/
def execBreakerOpenComplete (b : BreakerId) (s : State) : Answer :=
  .next (whenUp (openComplete b) s)

/-- BREAKER_CLOSE_COMPLETE (R122). -/
def execBreakerCloseComplete (b : BreakerId) (s : State) : Answer :=
  .next (whenUp (closeComplete b) s)

/-- POWER_LOSS (R189). -/
def execPowerLoss (t : Time) (s : State) : Answer :=
  .next (match s.power with
    | .off => s
    | .up => (s.advance t).lose
    | .held => s.lose)

end Sys2Proof.Machine
end

