-- ==== Sys2Proof/Machine/Dispatch.lean ====
section
/-! DEFINITION. The dispatch: one arm per command, each one call of its meaning. -/

namespace Sys2Proof.Machine

def exec (i : Instr) (s : State) : Host.Outcome State Fault Refusal :=
  match i with
  | .ginf t tag body => Sys2Proof.Machine.execGinf t tag body s
  | .gsta t tag body => Sys2Proof.Machine.execGsta t tag body s
  | .erst t tag body => Sys2Proof.Machine.execErst t tag body s
  | .nmsk t tag body => Sys2Proof.Machine.execNmsk t tag body s
  | .nack t tag body => Sys2Proof.Machine.execNack t tag body s
  | .rcal t tag body => Sys2Proof.Machine.execRcal t tag body s
  | .wcal t tag body => Sys2Proof.Machine.execWcal t tag body s
  | .lsta t tag body => Sys2Proof.Machine.execLsta t tag body s
  | .clrs t tag body => Sys2Proof.Machine.execClrs t tag body s
  | .cmit t tag body => Sys2Proof.Machine.execCmit t tag body s
  | .ltrg t tag body => Sys2Proof.Machine.execLtrg t tag body s
  | .ctmr t tag body => Sys2Proof.Machine.execCtmr t tag body s
  | .cbrk t tag body => Sys2Proof.Machine.execCbrk t tag body s
  | .lcrv t tag body => Sys2Proof.Machine.execLcrv t tag body s
  | .lgrd t tag body => Sys2Proof.Machine.execLgrd t tag body s
  | .smap t tag body => Sys2Proof.Machine.execSmap t tag body s
  | .cinp t tag body => Sys2Proof.Machine.execCinp t tag body s
  | .lrnt t tag body => Sys2Proof.Machine.execLrnt t tag body s
  | .ginp t tag body => Sys2Proof.Machine.execGinp t tag body s
  | .arm t tag body => Sys2Proof.Machine.execArm t tag body s
  | .darm t tag body => Sys2Proof.Machine.execDarm t tag body s
  | .stop t tag body => Sys2Proof.Machine.execStop t tag body s
  | .abrt t tag body => Sys2Proof.Machine.execAbrt t tag body s
  | .lstr t tag body => Sys2Proof.Machine.execLstr t tag body s
  | .rrpt t tag body => Sys2Proof.Machine.execRrpt t tag body s
  | .relr t tag body => Sys2Proof.Machine.execRelr t tag body s
  | .unknownKindRequest t tag kind body => Sys2Proof.Machine.execUnknownKindRequest t tag kind body s
  | .powerOn pins => Sys2Proof.Machine.execPowerOn pins s
  | .rstnAssert t => Sys2Proof.Machine.execRstnAssert t s
  | .rstnRelease pins => Sys2Proof.Machine.execRstnRelease pins s
  | .engineReset t => Sys2Proof.Machine.execEngineReset t s
  | .rxCharacter t ch stopBit => Sys2Proof.Machine.execRxCharacter t ch stopBit s
  | .frameSent t serveFirst => Sys2Proof.Machine.execFrameSent t serveFirst s
  | .wcalWriteComplete t => Sys2Proof.Machine.execWcalWriteComplete t s
  | .sampleTick => Sys2Proof.Machine.execSampleTick s
  | .shotStart => Sys2Proof.Machine.execShotStart s
  | .durationExpiry => Sys2Proof.Machine.execDurationExpiry s
  | .rampStep => Sys2Proof.Machine.execRampStep s
  | .transitionEntry => Sys2Proof.Machine.execTransitionEntry s
  | .lengthLimit => Sys2Proof.Machine.execLengthLimit s
  | .forcedCut => Sys2Proof.Machine.execForcedCut s
  | .tailExpiry => Sys2Proof.Machine.execTailExpiry s
  | .rawTransition t k term => Sys2Proof.Machine.execRawTransition t k term s
  | .debounceWindowEnd k sched => Sys2Proof.Machine.execDebounceWindowEnd k sched s
  | .chatterWindowBoundary sched => Sys2Proof.Machine.execChatterWindowBoundary sched s
  | .supplyCheck sagLow volts => Sys2Proof.Machine.execSupplyCheck sagLow volts s
  | .learningEnd k => Sys2Proof.Machine.execLearningEnd k s
  | .supervisionInterval sched => Sys2Proof.Machine.execSupervisionInterval sched s
  | .interlockOpening t => Sys2Proof.Machine.execInterlockOpening t s
  | .interlockClosing t => Sys2Proof.Machine.execInterlockClosing t s
  | .ppsPulse t entryFirst => Sys2Proof.Machine.execPpsPulse t entryFirst s
  | .holdoverEntry => Sys2Proof.Machine.execHoldoverEntry s
  | .syncTimeout => Sys2Proof.Machine.execSyncTimeout s
  | .outletSettleEnd => Sys2Proof.Machine.execOutletSettleEnd s
  | .timerTimeout m => Sys2Proof.Machine.execTimerTimeout m s
  | .breakerOpenComplete b => Sys2Proof.Machine.execBreakerOpenComplete b s
  | .breakerCloseComplete b => Sys2Proof.Machine.execBreakerCloseComplete b s
  | .powerLoss t => Sys2Proof.Machine.execPowerLoss t s

end Sys2Proof.Machine
end

