-- ==== Sys2Proof/Layouts.lean ====
section
/-! DEFINITION. The layouts of the records that replies carry, by offset, as the tables of R190 and R191
give them: which value stands at which offset, in how many bytes. -/

namespace Sys2Proof.Machine

/-! ## Fields (R190) -/

/-- The `n` bytes at offset `o` are the value `v`, high byte first. -/
def Carries (b : List Byte) (o n v : Nat) : Prop := (b.drop o).take n = toBytes n v

/-- The byte at offset `o` is a flag: 1 for set or yes, 0 for clear or no. -/
def CarriesFlag (b : List Byte) (o : Nat) (p : Prop) : Prop :=
  (p → Carries b o 1 1) ∧ (¬ p → Carries b o 1 0)

/-- A presence flag at offset `o`, and the value in the 4 bytes at offset `w`, 0 when absent. -/
def CarriesOption (b : List Byte) (o w : Nat) (v : Option Nat) : Prop :=
  CarriesFlag b o (v ≠ none) ∧ (∀ x, v = some x → Carries b w 4 x) ∧ (v = none → Carries b w 4 0)

/-- The `n` bytes at offset `o` are a set: bit i stands for the member at place i, and a bit without a
member is 0. -/
def CarriesSet (b : List Byte) (o n : Nat) (members : List Prop) : Prop :=
  ∃ v, v < 2 ^ members.length ∧ Carries b o n v ∧
    ∀ i p, members[i]? = some p → (v.testBit i = true ↔ p)

/-! ## Codes (R190, R191) -/

/-- The code of a sync state. -/
def Sync.coded (n : Nat) : Sync → Prop
  | .noSync => n = 0
  | .acquiring => n = 1
  | .locked => n = 2
  | .holdover => n = 3

/-- The code of an arrangement. -/
def Arrangement.coded (n : Nat) : Arrangement → Prop
  | .standard => n = 0
  | .swapped => n = 1
  | .parallel => n = 2
  | .disconnected => n = 3

/-- The code of an end reason, and its operand. -/
def EndReason.coded (n operand : Nat) : EndReason → Prop
  | .complete => n = 0 ∧ operand = 0
  | .endShot => n = 1 ∧ operand = 0
  | .stop => n = 2 ∧ operand = 0
  | .lengthLimit => n = 3 ∧ operand = 0
  | .hard .abort => n = 4 ∧ operand = 0
  | .hard .interlock => n = 5 ∧ operand = 0
  | .hard (.overload o) => n = 6 ∧ operand = o.val + 1
  | .hard .supplySag => n = 7 ∧ operand = 0

/-- The code of a breaker as it stands: DISABLED or its state. -/
def Breaker.coded (n : Nat) (b : Breaker) : Prop :=
  if b.cfg.enabled then match b.st with
    | .closed => n = 1
    | .opening => n = 2
    | .opened => n = 3
    | .closing => n = 4
  else n = 0

/-! ## The replies of GSTA and GINP (R191) -/

/-- The body of an OK reply to GSTA, 40 bytes. -/
structure StatusLayout (s : State) (b : List Byte) : Prop where
  length : b.length = 40
  status : Carries b 0 1 0
  state : ∃ n, Carries b 1 1 n ∧ match s.seq.st with
    | .empty => n = 0
    | .ready => n = 1
    | .armed => n = 2
    | .running => n = 3
    | .stopping => n = 4
    | .tail => n = 5
  commit : CarriesFlag b 2 (s.seq.commit = true)
  shotNo : Carries b 3 2 s.seq.shotNo
  cancel : ∃ n operand, Carries b 5 1 n ∧ Carries b 6 1 operand ∧ match s.seq.cancel with
    | .never => n = 0 ∧ operand = 0
    | .disarm => n = 1 ∧ operand = 0
    | .source .interlockOpen => n = 2 ∧ operand = 0
    | .source .supplySag => n = 3 ∧ operand = 0
    | .source .outletSettling => n = 4 ∧ operand = 0
    | .source .mapDisconnected => n = 5 ∧ operand = 0
    | .source .mapMismatch => n = 6 ∧ operand = 0
    | .source .learning => n = 7 ∧ operand = 0
    | .source .reportFull => n = 8 ∧ operand = 0
    | .source .noSync => n = 9 ∧ operand = 0
    | .source (.outletHot o) => n = 10 ∧ operand = o.val + 4
    | .source (.uncalibrated o) => n = 11 ∧ operand = o.val
  plain : CarriesSet b 7 2 [.interlockOpen ∈ rejectSet s, .supplySag ∈ rejectSet s,
    .outletSettling ∈ rejectSet s, .mapDisconnected ∈ rejectSet s, .mapMismatch ∈ rejectSet s,
    .learning ∈ rejectSet s, .reportFull ∈ rejectSet s, .noSync ∈ rejectSet s]
  hot : CarriesSet b 9 1 ((List.finRange 6).map fun o => .outletHot o ∈ rejectSet s)
  uncalibrated : CarriesSet b 10 2 ((List.finRange 10).map fun o => .uncalibrated o ∈ rejectSet s)
  rotation : CarriesFlag b 12 (s.syn.map.reversed = true)
  arrangement : ∃ n, Carries b 13 1 n ∧ s.syn.map.arrangement.coded n
  settle : CarriesFlag b 14 (s.syn.settle ≠ none)
  sync : ∃ n, Carries b 15 1 n ∧ s.tb.sync.coded n
  glitch : CarriesFlag b 16 (s.tb.glitch = true)
  breakers : ∀ k : BreakerId, ∃ n, Carries b (17 + k.val) 1 n ∧ (s.brk.get k).coded n
  usages : ∀ o : CurrentOutlet, Carries b (19 + 2 * o.val) 2
    ((s.sup.thermal.get o).heat * 1000 / capacityOf s o)
  free : Carries b 31 1 (16 - s.rep.held.length - if s.rep.cur = .noSlot then 0 else 1)
  reserved : CarriesFlag b 32 (s.rep.cur = .reserved)
  filling : CarriesFlag b 33 (s.rep.cur = .filling)
  unread : Carries b 34 1 (s.rep.held.filter fun h => h.unread).length
  read : Carries b 35 1 (s.rep.held.filter fun h => !h.unread).length
  notices : CarriesSet b 36 2 ((List.finRange 12).map fun i => s.link.noticeSet.get i = true)
  mask : CarriesSet b 38 2 ((List.finRange 12).map fun i => s.link.mask.get i = true)

/-- The body of an OK reply to GINP, 42 bytes; what is absent is 0. -/
structure InputLayout (i : Input) (b : List Byte) : Prop where
  length : b.length = 42
  status : Carries b 0 1 0
  mode : CarriesFlag b 1 (i.cfg.wet = true)
  code : Carries b 2 1 i.cfg.code
  debounce : Carries b 3 1 i.cfg.debounce
  activeLevel : CarriesFlag b 4 (i.cfg.activeHigh = true)
  limit : Carries b 5 1 i.cfg.limit
  raw : CarriesFlag b 6 (i.raw = true)
  qual : CarriesFlag b 7 (i.qual = true)
  active : CarriesFlag b 8 (i.qual = i.cfg.activeHigh)
  windowPresent : CarriesFlag b 9 (i.window ≠ none)
  window : ∀ w, i.window = some w → Carries b 10 6 w.opened.toNat ∧ Carries b 16 6 w.ends.toNat
  noWindow : i.window = none → Carries b 10 6 0 ∧ Carries b 16 6 0
  chatter : CarriesFlag b 22 (i.chatter = true)
  held : CarriesFlag b 23 (i.chatter = true ∧ i.held = true)
  count : Carries b 24 2 i.count
  reading : Carries b 26 2 i.reading
  learning : CarriesFlag b 28 (i.learn ≠ none)
  readings : ∀ l, i.learn = some l → Carries b 29 1 l.readings
  noReadings : i.learn = none → Carries b 29 1 0
  recordPresent : CarriesFlag b 30 (i.record ≠ none)
  record : ∀ r, i.record = some r → CarriesFlag b 31 (r.full = true) ∧ Carries b 32 2 r.vOn ∧
    Carries b 34 1 r.code ∧ CarriesFlag b 35 (r.set = false)
  noRecord : i.record = none → Carries b 31 1 0 ∧ Carries b 32 2 0 ∧ Carries b 34 1 0 ∧ Carries b 35 1 0
  bounces : Carries b 36 2 i.bounces
  edges : Carries b 38 2 i.edges
  periods : Carries b 40 2 i.periods

/-! ## Reports (R190, R191) -/

/-- An entry of LSTR, 7 bytes. -/
structure ListLayout (h : HeldReport) (b : List Byte) : Prop where
  length : b.length = 7
  shotNo : Carries b 0 2 h.report.shotNo
  endReason : ∀ e, h.report.endReason = some e →
    ∃ n operand, Carries b 2 1 n ∧ Carries b 3 1 operand ∧ e.coded n operand
  unread : CarriesFlag b 4 (h.unread = true)
  passes : Carries b 5 1
    (h.report.grades.filter fun g => g.verdict = .pass ∨ g.verdict = .passNoTrip).length
  fails : Carries b 6 1 (h.report.grades.filter fun g => g.verdict = .failEarly ∨
    g.verdict = .failLate ∨ g.verdict = .failUnexpectedTrip ∨ g.verdict = .failNoTrip).length

/-- The HEADER entry, 66 bytes. -/
structure HeaderLayout (r : Report) (b : List Byte) : Prop where
  length : b.length = 66
  shotNo : Carries b 0 2 r.shotNo
  tag : Carries b 2 2 r.tag
  t0 : Carries b 4 6 r.t0.toNat
  source : ∃ n operand edge, Carries b 10 1 n ∧ Carries b 11 1 operand ∧ Carries b 12 1 edge ∧
    match r.source with
    | .now => n = 0 ∧ operand = 0 ∧ edge = 0
    | .pps k => n = 1 ∧ operand = k ∧ edge = 0
    | .input k .active => n = 2 ∧ operand = k.val + 1 ∧ edge = 0
    | .input k .inactive => n = 2 ∧ operand = k.val + 1 ∧ edge = 1
  ppsPresent : CarriesFlag b 13 (r.ppsRef ≠ none)
  pps : ∀ offset sync, r.ppsRef = some (offset, sync) →
    Carries b 14 4 offset ∧ ∃ n, Carries b 18 1 n ∧ sync.coded n
  noPps : r.ppsRef = none → Carries b 14 4 0 ∧ Carries b 18 1 0
  rotation : CarriesFlag b 19 (r.map.reversed = true)
  arrangement : ∃ n, Carries b 20 1 n ∧ r.map.arrangement.coded n
  endReason : ∀ e, r.endReason = some e →
    ∃ n operand, Carries b 21 1 n ∧ Carries b 22 1 operand ∧ e.coded n operand
  further : CarriesSet b 23 2 ([.abort ∈ r.further, .interlock ∈ r.further, .supplySag ∈ r.further] ++
    (List.finRange 6).map fun o => .overload o ∈ r.further)
  stopBegin : Carries b 25 4 r.stopBegin
  finalize : Carries b 29 4 r.finalize
  flags : CarriesSet b 33 1 [r.flags.angleMissed = true, r.flags.ppsMissed = true,
    r.flags.chainLimit = true, r.flags.stopForced = true, r.flags.rampLimit = true,
    r.flags.sagSeen = true]
  clamped : CarriesSet b 34 2 ((List.finRange 10).map fun o => r.clamped.get o = true)
  chatter : CarriesSet b 36 2 ((List.finRange 10).map fun k => r.chatter.get k = true)
  peaks : ∀ o : CurrentOutlet, Carries b (38 + 2 * o.val) 2 (r.peaks.get o)
  trail : Carries b 50 1 r.trail.length ∧ Carries b 56 2 r.trailOver
  triggers : Carries b 51 1 r.log.length ∧ Carries b 58 2 r.logOver
  marks : Carries b 52 1 r.marks.length ∧ Carries b 60 2 r.marksOver
  operations : ∀ k : BreakerId, Carries b (53 + k.val) 1 (r.ops.get k).length ∧
    Carries b (62 + 2 * k.val) 2 (r.opsOver.get k)
  grades : Carries b 55 1 r.grades.length

/-- A TRAIL entry, 10 bytes. -/
structure TrailLayout (e : TrailEntry) (b : List Byte) : Prop where
  length : b.length = 10
  state : Carries b 0 1 e.state.val
  tag : Carries b 1 2 e.tag
  time : Carries b 3 4 e.time
  cause : ∃ n entry, Carries b 7 1 n ∧ Carries b 8 1 entry ∧ match e.cause with
    | .start => n = 0 ∧ entry = 0
    | .expiry => n = 1 ∧ entry = 0
    | .trigger i => n = 2 ∧ entry = i.val
  flags : CarriesSet b 9 1 [e.angleMissed = true, e.ppsMissed = true, e.superseded = true]

/-- The TIMERS entry of a timer, 36 bytes; a lap place without a lap is 0. -/
structure TimerLayout (m : Nat) (e : TimerResult) (b : List Byte) : Prop where
  length : b.length = 36
  timer : Carries b 0 1 (m + 1)
  mode : ∃ n input, Carries b 1 1 n ∧ Carries b 2 1 input ∧ match e.mode with
    | .interval => n = 0 ∧ input = 0
    | .width k => n = 1 ∧ input = k.val + 1
    | .count k => n = 2 ∧ input = k.val + 1
  start : CarriesOption b 3 4 e.start
  outcome : ∃ n, Carries b 8 1 n ∧ match e.outcome with
    | .disabled => n = 0
    | .notStarted => n = 1
    | .opened => n = 2
    | .stopped => n = 3
    | .timedOut => n = 4
  laps : Carries b 9 1 e.laps.length
  lap : ∀ i < 4, ∀ l, e.laps[i]? = some l →
    Carries b (10 + 5 * i) 4 l.value ∧ CarriesFlag b (14 + 5 * i) (l.early = true)
  noLap : ∀ i < 4, e.laps[i]? = none → Carries b (10 + 5 * i) 4 0 ∧ Carries b (14 + 5 * i) 1 0
  count : Carries b 30 2 e.count
  extra : Carries b 32 2 e.extra
  late : Carries b 34 2 e.late

/-- A GRADES entry, 20 bytes; what is absent is 0. -/
structure GradeLayout (e : GradeEntry) (b : List Byte) : Prop where
  length : b.length = 20
  grade : Carries b 0 1 (e.grade.val + 1)
  verdict : ∃ n, Carries b 1 1 n ∧ match e.verdict with
    | .pass => n = 0
    | .passNoTrip => n = 1
    | .failEarly => n = 2
    | .failLate => n = 3
    | .failUnexpectedTrip => n = 4
    | .failNoTrip => n = 5
    | .notGraded => n = 6
  present : CarriesSet b 2 1 [e.m ≠ none, e.expected ≠ none, e.measured ≠ none, e.band ≠ none]
  m : Carries b 3 4 (e.m.getD 0)
  expected : Carries b 7 4 (e.expected.getD 0)
  measured : ∀ v early, e.measured = some (v, early) →
    Carries b 11 4 v ∧ CarriesFlag b 15 (early = true)
  notMeasured : e.measured = none → Carries b 11 4 0 ∧ Carries b 15 1 0
  band : Carries b 16 4 (e.band.getD 0)

/-- A BREAKERS entry, 19 bytes. -/
structure OperationLayout (k : BreakerId) (e : OpEntry) (b : List Byte) : Prop where
  length : b.length = 19
  breaker : Carries b 0 1 (k.val + 1)
  kind : ∃ n, Carries b 1 1 n ∧ match e.kind with
    | .opened => n = 0
    | .closed => n = 1
    | .tripRefused => n = 2
    | .closeRefused => n = 3
  command : Carries b 2 4 e.command
  completion : Carries b 6 4 e.completion
  cause : ∃ n operand, Carries b 10 1 n ∧ Carries b 11 1 operand ∧ match e.cause with
    | .input k => n = 0 ∧ operand = k.val + 1
    | .trigger i => n = 1 ∧ operand = i.val
  refusal : ∃ n found, Carries b 12 1 n ∧ Carries b 13 1 found ∧ match e.refusal with
    | .accepted => n = 0 ∧ found = 0
    | .state .closed => n = 1 ∧ found = 1
    | .state .opening => n = 1 ∧ found = 2
    | .state .opened => n = 1 ∧ found = 3
    | .state .closing => n = 1 ∧ found = 4
    | .tripFree => n = 2 ∧ found = 0
  replaced : CarriesOption b 14 15 e.replaced

/-- A TRIGGERS entry, 6 bytes. -/
structure LogLayout (e : LogEntry) (b : List Byte) : Prop where
  length : b.length = 6
  entry : Carries b 0 1 e.entry.val
  time : Carries b 1 4 e.time
  superseded : CarriesFlag b 5 (e.superseded = true)

/-- A MARKS entry, 12 bytes. -/
structure MarkLayout (e : Mark) (b : List Byte) : Prop where
  length : b.length = 12
  time : Carries b 0 4 e.time
  state : Carries b 4 1 e.state.val
  step : Carries b 5 2 e.step
  live : CarriesOption b 7 8 e.live

/-- An INPUTS entry, 6 bytes. -/
structure CountsLayout (e : InputCounts) (b : List Byte) : Prop where
  length : b.length = 6
  bounces : Carries b 0 2 e.bounces
  edges : Carries b 2 2 e.edges
  periods : Carries b 4 2 e.periods

/-- The entries of a section are those of a list, in its order, each laid out. -/
def SectionLayout {α : Type} (layout : α → List Byte → Prop) (items : List α) (entries : List (List Byte)) :
    Prop :=
  entries.length = items.length ∧
    ∀ (i : Nat) (x : α) (b : List Byte), items[i]? = some x → entries[i]? = some b → layout x b

end Sys2Proof.Machine
end

