-- ==== Sys2Proof/Safety.lean ====
section
/-! DEFINITION. What a good state is, in the terms that claims use: the agreements between the blocks
that the manual states for every instant, and what it is for a command to be carried out and answered.
-/

namespace Sys2Proof.Machine

/-! ## Requests carried out at once -/

/-- The link takes a request and executes it at the instant its frame is complete: the engine runs, no
reset is awaited, no request is held, no calibration write is in progress, and fewer than two replies
stand in the transmit order (R176, R179, R186). -/
structure LinkFree (s : State) : Prop where
  up : s.power = .up
  awake : s.link.resetting = false
  noRequest : s.link.queue = []
  noWrite : s.cal.write = none
  room : s.link.replies < 2

/-- The engine time and the frame of a request command; none for an event (R175). -/
def requestOf : Instr → Option (Time × Frame)
  | .ginf t tag body => some (t, { kind := 0x01, tag, body })
  | .gsta t tag body => some (t, { kind := 0x02, tag, body })
  | .erst t tag body => some (t, { kind := 0x03, tag, body })
  | .nmsk t tag body => some (t, { kind := 0x04, tag, body })
  | .nack t tag body => some (t, { kind := 0x05, tag, body })
  | .rcal t tag body => some (t, { kind := 0x06, tag, body })
  | .wcal t tag body => some (t, { kind := 0x07, tag, body })
  | .lsta t tag body => some (t, { kind := 0x10, tag, body })
  | .clrs t tag body => some (t, { kind := 0x11, tag, body })
  | .cmit t tag body => some (t, { kind := 0x12, tag, body })
  | .ltrg t tag body => some (t, { kind := 0x13, tag, body })
  | .ctmr t tag body => some (t, { kind := 0x14, tag, body })
  | .cbrk t tag body => some (t, { kind := 0x15, tag, body })
  | .lcrv t tag body => some (t, { kind := 0x16, tag, body })
  | .lgrd t tag body => some (t, { kind := 0x17, tag, body })
  | .smap t tag body => some (t, { kind := 0x20, tag, body })
  | .cinp t tag body => some (t, { kind := 0x21, tag, body })
  | .lrnt t tag body => some (t, { kind := 0x22, tag, body })
  | .ginp t tag body => some (t, { kind := 0x23, tag, body })
  | .arm t tag body => some (t, { kind := 0x30, tag, body })
  | .darm t tag body => some (t, { kind := 0x31, tag, body })
  | .stop t tag body => some (t, { kind := 0x32, tag, body })
  | .abrt t tag body => some (t, { kind := 0x33, tag, body })
  | .lstr t tag body => some (t, { kind := 0x50, tag, body })
  | .rrpt t tag body => some (t, { kind := 0x51, tag, body })
  | .relr t tag body => some (t, { kind := 0x52, tag, body })
  | .unknownKindRequest t tag kind body => some (t, { kind, tag, body })
  | .powerOn _ | .rstnAssert _ | .rstnRelease _ | .engineReset _ | .rxCharacter _ _ _
  | .frameSent _ _ | .wcalWriteComplete _ | .sampleTick | .shotStart | .durationExpiry
  | .rampStep | .transitionEntry | .lengthLimit | .forcedCut | .tailExpiry
  | .rawTransition _ _ _ | .debounceWindowEnd _ _ | .chatterWindowBoundary _
  | .supplyCheck _ _ | .learningEnd _ | .supervisionInterval _ | .interlockOpening _
  | .interlockClosing _ | .ppsPulse _ _ | .holdoverEntry | .syncTimeout | .outletSettleEnd
  | .timerTimeout _ | .breakerOpenComplete _ | .breakerCloseComplete _ | .powerLoss _ => none

/-- The state in which a request's reply has joined the transmit order (R177). -/
def State.replied (s : State) (f : Frame) (body : List Byte) : State :=
  { s with link := s.link.join (replyFrame .reply f body) }

/-! ## Characters of a frame -/

/-- The characters of a list are taken from RX one by one, each `gap` after the one before it. -/
def feed (gap : Nat) : List Byte → State → State
  | [], s => s
  | ch :: rest, s =>
    match exec (.rxCharacter (after s.now gap) ch true) s with
    | .next t => feed gap rest t
    | .fault _ => s
    | .refused _ => s

/-! ## Legal records -/

/-- An arrival rule within its ranges (R5). -/
def Rule.Legal (r : Rule) : Prop := ∀ ref angle, r.mode = .atAngle ref angle → angle ≤ 35999

/-- The greatest magnitude of a ramp step (R7). -/
def Quantity.limit : Quantity → Nat
  | .amplitude => 5000
  | .phase => 18000
  | .frequency => 100000

/-- A ramp within its ranges (R7). -/
structure Ramp.Legal (r : Ramp) : Prop where
  chans : ∃ c, r.chans.get c = true
  step : r.step ≠ 0 ∧ r.step.natAbs ≤ r.quantity.limit
  dwell : 1 ≤ r.dwell ∧ r.dwell ≤ 60000
  count : 1 ≤ r.count ∧ r.count ≤ 1000

/-- A state record within its ranges (R3, R6, R7). -/
structure StateRecord.Legal (r : StateRecord) : Prop where
  tag : r.tag ≤ 65535
  amp : ∀ c, (r.chans.get c).amp ≤ if c.val < 4 then 30000 else 50000
  angle : ∀ c, (r.chans.get c).angle ≤ 35999
  freq : ∀ c, (r.chans.get c).freq ≤ 1000000
  duration : r.duration ≤ 3600000
  rule : r.rule.Legal
  few : r.exceptions.length ≤ 4
  distinct : (r.exceptions.map fun e => e.source).Nodup
  rules : ∀ e ∈ r.exceptions, e.rule.Legal
  ramp : ∀ p, r.ramp = some p → p.Legal

/-! ## A state entry -/

/-- The state `v` in which the entry of state `i` at `tick` has been carried out from `s`, before its
events are routed: timers, channels, outlet amplitudes and peak codes (derived from the new live values
as R47 and R48 give, the clamped-outlet set with them), outputs and trail (R24, R28, R30, R44 to R48,
R53). -/
structure Entered (i : StateIdx) (reset : Bool) (cause : Cause) (angleMissed ppsMissed : Bool)
    (tick : Time) (s v : State) : Prop where
  inForce : v.seq.inForce = some i
  pend : v.seq.pend = none
  duration : v.seq.durationDue =
    if (s.seq.record i).duration = 0 then none
    else some (after tick ((s.seq.record i).duration * 1000))
  steps : v.seq.rampSteps = 0
  dwell : v.seq.dwellDue = (s.seq.record i).ramp.map fun p => after tick (p.dwell * 1000)
  amp : ∀ c, (v.syn.chans.get c).amp = ((s.seq.record i).chans.get c).amp
  angle : ∀ c, (v.syn.chans.get c).angle = ((s.seq.record i).chans.get c).angle
  freq : ∀ c, (v.syn.chans.get c).freq = ((s.seq.record i).chans.get c).freq
  delta : ∀ c, (v.syn.chans.get c).delta = increment ((s.seq.record i).chans.get c).freq
  phi : ∀ c, (v.syn.chans.get c).phi = offsetWord ((s.seq.record i).chans.get c).angle
  psi : ∀ c, (v.syn.chans.get c).psi = if reset then 0 else (s.syn.chans.get c).psi
  fresh : ∀ c, (v.syn.chans.get c).fresh = true
  amps : v.syn.amps = (deriveOutlets true s.cal.working { s.syn with chans := v.syn.chans }).amps
  peaks : v.syn.peaks = (deriveOutlets true s.cal.working { s.syn with chans := v.syn.chans }).peaks
  clamped : v.syn.clamped =
    (deriveOutlets true s.cal.working { s.syn with chans := v.syn.chans }).clamped
  outputs : ∀ o, (v.out.get o).owner = .sequence →
    (v.out.get o).closed = (s.seq.record i).pattern.get o
  trail : s.rep.fill.trail.length < 32 → v.rep.fill.trail = s.rep.fill.trail ++
    [{ state := i, tag := (s.seq.record i).tag, time := relative s.seq.t0 tick, cause, angleMissed,
       ppsMissed, superseded := false }]
  trailFull : 32 ≤ s.rep.fill.trail.length → v.rep.fill.trail = s.rep.fill.trail ∧
    v.rep.fill.trailOver = min (s.rep.fill.trailOver + 1) 65535
  angleFlag : v.rep.fill.flags.angleMissed = (s.rep.fill.flags.angleMissed || angleMissed)
  ppsFlag : v.rep.fill.flags.ppsMissed = (s.rep.fill.flags.ppsMissed || ppsMissed)

/-! ## Agreements (invariants) -/

/-- The sequencer agrees with itself: commit flag, pending transition, timers and end reason by the
sequencer state (R2, R24, R25, R30, R35, R36). -/
structure SequencerAgrees (q : Sequencer) : Prop where
  commit : q.commit = true ↔ q.st ≠ .empty
  pend : q.pend ≠ none → q.st = .running
  duration : q.durationDue ≠ none → q.st = .running
  dwell : q.dwellDue ≠ none → q.st = .running
  tail : q.tailDue ≠ none ↔ q.st = .tail
  ended : q.endReason ≠ none ↔ (q.st = .stopping ∨ q.st = .tail)
  due : q.startDue ≠ none → q.st = .armed

/-- The slot that a sequencer state gives the current shot (R155). -/
def SeqState.slot : SeqState → CurSlot
  | .empty | .ready => .noSlot
  | .armed => .reserved
  | .running | .stopping | .tail => .filling

/-- The slots taken by the current shot. -/
def CurSlot.taken : CurSlot → Nat
  | .noSlot => 0
  | .reserved | .filling => 1

/-- The report store agrees with the sequencer state, and its slots add up to 16 at most (R155). -/
structure SlotsAgree (s : State) : Prop where
  cur : s.rep.cur = s.seq.st.slot
  room : s.rep.held.length + s.rep.cur.taken ≤ 16

/-- The shot numbers of the held reports. -/
def ReportStore.numbers (r : ReportStore) : List Nat := r.held.map fun h => h.report.shotNo

/-- No two reports carry the same shot number, the one being filled included (R22, R155). -/
structure NumbersDistinct (s : State) : Prop where
  slots : SlotsAgree s
  held : s.rep.numbers.Nodup
  fill : s.rep.cur = .filling → s.rep.fill.shotNo ∉ s.rep.numbers

/-- The lists of a report stay within their capacities (R160). -/
structure Report.Bounded (r : Report) : Prop where
  trail : r.trail.length ≤ 32
  timers : r.timers.length ≤ 8
  grades : r.grades.length ≤ 8
  ops : ∀ b, (r.ops.get b).length ≤ 16
  log : r.log.length ≤ 64
  marks : r.marks.length ≤ 16
  inputs : r.inputs.length ≤ 10

/-- The lists of every report, held or being filled, and the operation list of every breaker stay within
their capacities (R125, R160). -/
structure ListsBounded (s : State) : Prop where
  fill : s.rep.fill.Bounded
  held : ∀ h ∈ s.rep.held, h.report.Bounded
  lists : ∀ b, (s.brk.get b).ops.length ≤ 16

/-- Every binary output has the owner and the level that R128 and R129 give. -/
def OutputsAgree (s : State) : Prop := ∀ o, s.out.get o = outputNow s o

/-- A breaker agrees with itself: the operation in progress by the breaker state; without one it
stands CLOSED or OPEN (R114). -/
structure BreakerAgrees (b : Breaker) : Prop where
  disabled : b.cfg.enabled = false → b.st = .closed ∧ b.op = none
  operating : ∀ op, b.op = some op → b.st = if op.opens then .opening else .closing
  resting : b.op = none → b.st = .closed ∨ b.st = .opened

/-- Every breaker agrees with itself, and outside a shot each enabled one stands in its initial state
(R114). -/
structure BreakersAgree (s : State) : Prop where
  each : ∀ b, BreakerAgrees (s.brk.get b)
  outside : s.seq.st.inShot = false → ∀ b, (s.brk.get b).cfg.enabled = true →
    (s.brk.get b).st = (s.brk.get b).cfg.initialState ∧ (s.brk.get b).op = none

/-- The debounce of an input agrees with its levels: NORMAL, a window is open exactly while the raw
level differs from the qualified level; in CHATTER there is no window, and the qualified level is held
(R71, R72, R75, R76). -/
structure InputAgrees (i : Input) : Prop where
  normal : i.chatter = false → (i.window = none ↔ i.raw = i.qual)
  chattering : i.chatter = true → i.window = none ∧ i.qual = i.held

/-- L is present exactly while the sync state is not NO_SYNC (R132). -/
def SyncAgrees (t : TimeBase) : Prop := t.latest = none ↔ t.sync = .noSync

/-- Every thermal account lies between 0 and the capacity of its record, and every peak usage is at
most 1,000 per-mille (R142). -/
structure HeatBounded (s : State) : Prop where
  heat : ∀ o, (s.sup.thermal.get o).heat ≤ capacityOf s o
  peak : ∀ o, (s.sup.thermal.get o).peak ≤ 1000

/-- Outside RUNNING and STOPPING every DAC stream stands at code 0, and every code lies within the
range of the DAC (R50, R51). -/
structure OutletsSafe (s : State) : Prop where
  silent : s.seq.st.driving = false → ∀ o, s.syn.dac.get o = 0
  range : ∀ o, -32767 ≤ s.syn.dac.get o ∧ s.syn.dac.get o ≤ 32767

/-- The NOTE frames of the transmit order. -/
def Link.notes (l : Link) : Nat := (l.order.filter fun f => f.what == .note).length

/-- The queue and the transmit order stay within the bounds of R176 and R177, and a calibration write
holds the queue (R179). -/
structure LinkBounded (s : State) : Prop where
  queue : s.link.queue.length ≤ 2
  replies : s.link.replies ≤ 2
  busies : s.link.busies ≤ 2
  notes : s.link.notes ≤ 1
  resetting : s.link.resetting = true → s.link.queue = [] ∧ s.cal.write = none
  resets : ∀ f ∈ s.link.order, f.what = .resetReply → s.link.resetting = true
  writing : s.cal.write ≠ none → s.link.queue ≠ [] ∧ s.link.replies ≤ 1

end Sys2Proof.Machine
end

