-- ==== Sys2Proof/Certificates/Slice0/Obligations.lean ====
section
/-! DEFINITION. The statements about the engine: what a step does, what the link does with frames and
requests, what each command makes of the state and leaves alone, and the agreements that every step
keeps. -/

section

open Sys2Proof Sys2Proof.Machine

/-! ## The step and its queue -/

/-- A step takes the command at the front of the queue and is `exec` of it on the state with the queue's
rest; on an empty queue engine time goes on by 1 µs while the engine runs (the latter is the model's
choice, log 2). -/
def Obligations.StepTakesTheFrontCommand : Prop :=
  (∀ (c : Instr) (s : State) (rest : List Instr),
    s.pending = c :: rest → step s = exec c { s with pending := rest }) ∧
  (∀ s : State, s.pending = [] → s.power = .up → step s = .next { s with now := s.now + 1 })

/-- Every command completes on every state and leaves the queue of waiting commands alone; without
power, or held by RSTN, the engine takes no command but power-on, the release of RSTN and the loss of
power (the latter is the model's choice, log 11). -/
def Obligations.EveryCommandCompletes : Prop :=
  (∀ (c : Instr) (s : State), ∃ t, exec c s = .next t ∧ t.pending = s.pending) ∧
  (∀ (c : Instr) (s : State), s.power ≠ .up → (∀ p, c ≠ .powerOn p) → (∀ p, c ≠ .rstnRelease p) →
    (∀ t, c ≠ .powerLoss t) → exec c s = .next s)

/-! ## Frames and requests (11) -/

/-- A frame laid out as 11.2 gives, with the CRC of R174, whose characters arrive one after another, each
the same gap of at most 2,000 µs after the one before it, is taken whole by a hunting assembler and handed
to the request queue at the instant of its last character; nothing else changes on the way (R173,
R174). -/
def Obligations.FrameOnTheLineReachesTheQueue : Prop :=
  ∀ (f : Frame) (s : State) (gap : Nat), s.power = .up → s.link.rx.phase = .hunting →
    f.body.length ≤ 250 → gap ≤ 2000 →
    ∃ rx : Assembler, rx.phase = .hunting ∧
      feed gap (frameBytes f) s =
        submit f { s with now := after s.now (gap * (f.body.length + 6)), link := { s.link with rx } }

/-- What the assembler does with a character taken in each of its states, within the gap of a frame: the
rows of the table of R173. A frame whose CRC matches is handed to the request queue. A frame fails, is
discarded without a reply and raises LINK_ERROR, and the assembler hunts: at a LEN above 250, a character
error within a frame, a CRC that does not match, and a gap of more than 2,000 µs, after which the late
character is taken in HUNTING (R173, R174). -/
def Obligations.CharactersMoveTheAssembler : Prop :=
  (∀ (t : Time) (ch : Byte) (s : State), s.power = .up →
     (s.link.rx.phase ≠ .hunting → elapsed s.link.rx.last (s.advance t).now ≤ 2000) →
     let u := s.advance t
     let a := s.link.rx
     let takes (rx : Assembler) : Prop :=
       exec (.rxCharacter t ch true) s = .next { u with link := { s.link with rx := rx } }
     (a.phase = .hunting → ch ≠ 0xC5 → exec (.rxCharacter t ch true) s = .next u) ∧
     (a.phase = .hunting → exec (.rxCharacter t ch false) s = .next u) ∧
     (a.phase = .hunting → ch = 0xC5 →
       ∃ rx, takes rx ∧ rx.phase = .length ∧ rx.body = [] ∧ rx.last = u.now) ∧
     (a.phase = .length → ch.toNat ≤ 250 →
       takes { a with phase := .tag, len := ch.toNat, last := u.now }) ∧
     (a.phase = .tag → takes { a with phase := .kind, tag := ch, last := u.now }) ∧
     (a.phase = .kind → a.len = 0 → takes { a with phase := .crcHigh, kind := ch, last := u.now }) ∧
     (a.phase = .kind → a.len ≠ 0 → takes { a with phase := .body, kind := ch, last := u.now }) ∧
     (a.phase = .body → a.body.length + 1 < a.len →
       takes { a with body := a.body ++ [ch], last := u.now }) ∧
     (a.phase = .body → a.body.length + 1 = a.len →
       takes { a with phase := .crcHigh, body := a.body ++ [ch], last := u.now }) ∧
     (a.phase = .crcHigh → takes { a with phase := .crcLow, crcHigh := ch, last := u.now }) ∧
     (a.phase = .crcLow → crc (frameCore a.frame) = a.crcHigh ++ ch →
       exec (.rxCharacter t ch true) s =
         .next (submit a.frame { u with link := { s.link with rx := { a with phase := .hunting } } }))) ∧
  (∀ (t : Time) (ch : Byte) (s : State), s.power = .up → s.link.rx.phase ≠ .hunting →
     let u := s.advance t
     let fails : State := { u with link := { u.link with rx := { u.link.rx with phase := .hunting } } }
     (elapsed s.link.rx.last u.now ≤ 2000 →
       (s.link.rx.phase = .length → 250 < ch.toNat →
         exec (.rxCharacter t ch true) s = .next (fails.raise .linkError)) ∧
       exec (.rxCharacter t ch false) s = .next (fails.raise .linkError) ∧
       (s.link.rx.phase = .crcLow → crc (frameCore s.link.rx.frame) ≠ s.link.rx.crcHigh ++ ch →
         exec (.rxCharacter t ch true) s = .next (fails.raise .linkError))) ∧
     (2000 < elapsed s.link.rx.last u.now → ch ≠ 0xC5 →
       exec (.rxCharacter t ch true) s = .next (fails.raise .linkError)) ∧
     (2000 < elapsed s.link.rx.last u.now →
       ∃ v, exec (.rxCharacter t 0xC5 true) s = .next v ∧ v.link.rx.phase = .length ∧
         v = { fails.raise .linkError with
               link := { (fails.raise .linkError).link with rx := v.link.rx } }))

/-- A request that cannot be executed at once: with fewer than two requests held it waits at the tail of
the queue; with two held it is answered with BUSY, ahead of the requests held, or, while two BUSY replies
stand in the transmit order, discarded with LINK_ERROR (R176, R177; that a BUSY reply being sent counts
among the two is the model's reading, log 13). -/
def Obligations.RequestQueueHoldsTwo : Prop :=
  ∀ (c : Instr) (t : Time) (f : Frame) (s : State), requestOf c = some (t, f) → s.power = .up →
    s.link.resetting = false →
    (s.link.queue.length < 2 → mayExecute s = false →
      exec c s = .next { s.advance t with link := { s.link with queue := s.link.queue ++ [f] } }) ∧
    (s.link.queue.length = 2 → s.link.busies < 2 →
      exec c s = .next { s.advance t with link := s.link.join (replyFrame .busy f [0x01]) }) ∧
    (s.link.queue.length = 2 → 2 ≤ s.link.busies →
      exec c s = .next ((s.advance t).raise .linkError))

/-- Kind and length are checked first: a KIND that names no message is answered with UNKNOWN_KIND, a LEN
that the kind does not allow with BAD_LENGTH; a reply carries the TAG and the KIND with its top bit set,
and nothing else changes (R178). -/
def Obligations.MalformedRequestsAreRefused : Prop :=
  (∀ (t : Time) (tag kind : Byte) (body : List Byte) (s : State), LinkFree s →
    messageCodes.contains kind = false →
    let g : Frame := { kind := kind ||| 0x80, tag := tag, body := [0x02] }
    exec (.unknownKindRequest t tag kind body) s =
      .next { s.advance t with link := s.link.join { what := .reply, formed := true, frame := g } }) ∧
  (∀ (c : Instr) (t : Time) (f : Frame) (s : State), requestOf c = some (t, f) → LinkFree s →
    messageCodes.contains f.kind = true → lengthOk f.kind f.body = false →
    let g : Frame := { kind := f.kind ||| 0x80, tag := f.tag, body := [0x03] }
    exec c s =
      .next { s.advance t with link := s.link.join { what := .reply, formed := true, frame := g } })

/-- FRAME_SENT: on an empty order, the model's choice (log 4), it only moves engine time. Otherwise the
frame at the head leaves the transmit order, the next begins, and the requests held are executed, one
after another, while there is room: no write holds the queue, no reset is awaited, and fewer than two
replies stand in the order. Which of the two comes first, the next transmission or the execution, is an
operand (log 8). A NOTE that leaves with a further one due brings it to the tail of the order (log 12).
When a reply leaves and another stands, one request of those held is executed (R176, R177). -/
def Obligations.SentFramesMakeRoom : Prop :=
  (∀ (t : Time) (s : State), s.power = .up → s.link.order = [] →
    ∀ b, exec (.frameSent t b) s = .next (s.advance t)) ∧
  (∀ (t : Time) (s : State) (f : TxFrame) (rest : List TxFrame), s.power = .up →
    s.link.order = f :: rest → f.what ≠ .resetReply →
    let left : Link := if f.what = .note ∧ s.link.noteDue = true
      then { s.link with order := rest ++ [waitingNote], noteDue := false }
      else { s.link with order := rest }
    let u : State := { s.advance t with link := left }
    let room (x : State) : Prop :=
      x.cal.write = none ∧ x.link.resetting = false ∧ x.link.replies < 2
    let served (x y : State) : Prop :=
      (x.link.queue = [] ∨ ¬ room x → y = x) ∧
      (∀ g behind, x.link.queue = g :: behind → room x →
        let z := execute g x
        (z.link.queue = [] ∨ ¬ room z → y = z) ∧
        (∀ h behind', z.link.queue = h :: behind' → room z → y = execute h z))
    (∃ y, served { u with link := left.transmit } y ∧ exec (.frameSent t false) s = .next y) ∧
    (∃ y, served u y ∧ exec (.frameSent t true) s = .next { y with link := y.link.transmit }) ∧
    (∀ g behind, f.what = .reply → s.link.queue = g :: behind → s.link.replies = 2 →
      (∀ x ∈ rest, x.formed = true) → s.link.resetting = false → s.cal.write = none →
      exec (.frameSent t false) s =
        .next (execute g { s.advance t with link := { s.link with order := rest } })))

/-- A raised kind joins the pending set once, enabled or not; when it is enabled a NOTE joins the transmit
order, unless one stands there: a NOTE that waits will carry the kind and nothing is added, and while one
is being sent a further NOTE is due once it has left (log 12). A NOTE that finds the order empty begins its
transmission at once (log 20). A NOTE's body is the whole pending set at the instant its transmission
begins, and a NOTE whose turn comes with nothing reportable is not sent (R181). -/
def Obligations.NoticesJoinThePendingSet : Prop :=
  (∀ (s : State) (k : Notice), s.link.noticeSet.get k.bit = true → s.raise k = s) ∧
  (∀ (s : State) (k : Notice), s.link.noticeSet.get k.bit = false →
    (s.raise k).link.noticeSet = s.link.noticeSet.set k.bit true ∧
    (s.link.mask.get k.bit = false → s.raise k =
      { s with link := { s.link with noticeSet := s.link.noticeSet.set k.bit true } }) ∧
    (s.link.mask.get k.bit = true → s.link.order = [] →
      (s.raise k).link.order =
        [{ what := .note, formed := true,
           frame := { kind := 0x40, tag := 0, body := setBytes 2 (s.raise k).link.noticeSet } }]) ∧
    (∀ f rest, s.link.mask.get k.bit = true → s.link.order = f :: rest → f.formed = true →
      s.link.notes = 0 → (s.raise k).link.order = s.link.order ++ [waitingNote]) ∧
    (∀ f, s.link.mask.get k.bit = true → (s.link.order.find? fun g => g.what == .note) = some f →
      let set := s.link.noticeSet.set k.bit true
      (f.formed = true → s.raise k =
        { s with link := { s.link with noticeSet := set, noteDue := true } }) ∧
      (f.formed = false → s.raise k = { s with link := { s.link with noticeSet := set } }))) ∧
  (∀ (l : Link) (rest : List TxFrame), l.order = waitingNote :: rest →
    (l.anyReportable = true → l.transmit.order =
      ⟨.note, true, { kind := 0x40, tag := 0, body := setBytes 2 l.noticeSet }⟩ :: rest) ∧
    (l.anyReportable = false → l.transmit = { l with order := rest }.transmit))

/-- NMSK replaces the notice mask and makes a NOTE due when it enables a pending kind; NACK removes the
named kinds from the pending set and no other; both refuse bits 12 to 15 (R182, R183; that the NOTE which an
NMSK makes due joins the transmit order before its reply is the model's choice, log 39). -/
def Obligations.NmskAndNackSetTheNotices : Prop :=
  ∀ (t : Time) (tag : Byte) (body : List Byte) (s : State), LinkFree s → body.length = 2 →
    let v := field body 0 2
    let mask : Bank Bool 12 := .ofFn fun i => v.testBit i.val
    let u : State := s.advance t
    (v ≤ 4095 →
      exec (.nmsk t tag body) s =
        .next ({ u with link := s.link.setMask mask }.replied { kind := 0x04, tag, body } [0x00]) ∧
      exec (.nack t tag body) s =
        .next ({ u with link := { s.link with
          noticeSet := .ofFn fun i => s.link.noticeSet.get i && !v.testBit i.val } }.replied
            { kind := 0x05, tag, body } [0x00])) ∧
    ((s.link.setMask mask).mask = mask ∧ (s.link.setMask mask).noticeSet = s.link.noticeSet) ∧
    ((∀ i, s.link.noticeSet.get i = true → mask.get i = true → s.link.mask.get i = true) →
      s.link.setMask mask = { s.link with mask }) ∧
    (∀ i, s.link.noticeSet.get i = true → s.link.mask.get i = false → mask.get i = true →
      s.link.setMask mask = { s.link with mask }.dueNote) ∧
    (4095 < v →
      exec (.nmsk t tag body) s = .next (u.replied { kind := 0x04, tag, body } [0x04]) ∧
      exec (.nack t tag body) s = .next (u.replied { kind := 0x05, tag, body } [0x04]))

/-! ## Information and status (11.5, 4, 10.5) -/

/-- GINF answers with the part code 0x0410, revision 2, the serial number (0 when the identity record
failed its check), the strap level and the link mode, and changes nothing (R184). -/
def Obligations.GinfIdentifiesTheEngine : Prop :=
  ∀ (t : Time) (tag : Byte) (s : State), LinkFree s →
    ∃ serial mode : List Byte,
      exec (.ginf t tag []) s = .next ((s.advance t).replied { kind := 0x01, tag, body := [] }
        (([0x00, 0x04, 0x10, 0x02] : List Byte) ++ serial ++
          (match s.link.strap with
           | .level0 => [0x00]
           | .levelR => [0x01]
           | .levelF => [0x02]
           | .level1 => [0x03]) ++ mode)) ∧
      (mode = [1] ↔ s.link.strap = .level1) ∧ (mode = [0] ↔ s.link.strap ≠ .level1) ∧
      (s.cal.serial = none → serial = [0, 0, 0, 0]) ∧
      (∀ n, s.cal.serial = some n → serial.length = 4 ∧ ofBytes serial = n.toNat)

/-- GSTA answers with 40 bytes, the status as it stands in the layout of R191, and clears the glitch flag it
carries; its five slot counts sum to 16 (R134, R141, R185, R190, R191). -/
def Obligations.GstaReportsAndClearsTheGlitch : Prop :=
  ∀ (t : Time) (tag : Byte) (s : State), LinkFree s →
    exec (.gsta t tag []) s = .next ({ s.advance t with tb := { s.tb with glitch := false } }.replied
      { kind := 0x02, tag, body := [] } (0x00 :: statusBytes s)) ∧
    StatusLayout s (0x00 :: statusBytes s) ∧
    (s.rep.held.length + s.rep.cur.taken ≤ 16 →
      s.rep.freeSlots + (if s.rep.cur = .reserved then 1 else 0) +
        (if s.rep.cur = .filling then 1 else 0) + (s.rep.held.filter fun h => h.unread).length +
        (s.rep.held.filter fun h => !h.unread).length = 16)

/-- RCAL, GINP and LSTR answer with what the engine holds, in the layouts of R191, high byte first, and
change nothing; an outlet or an input that does not exist is refused with PARAM_RANGE (R83, R168, R188,
R190, R191). -/
def Obligations.ReadingRepliesChangeNothing : Prop :=
  ∀ (t : Time) (tag b : Byte) (s : State), LinkFree s →
    (∀ o : Outlet, b.toNat = o.val →
      exec (.rcal t tag [b]) s = .next ((s.advance t).replied { kind := 0x06, tag, body := [b] }
        (([0x00] : List Byte) ++ toBytes 4 (s.cal.working.get o).gain ++
          signedBytes 2 (s.cal.working.get o).offset ++ toBytes 2 (s.cal.working.get o).rating ++
          toBytes 6 (s.cal.working.get o).capacity ++
          (match s.cal.status.get o with
           | .good => [0x00]
           | .defaulted => [0x01]
           | .written => [0x02])))) ∧
    (10 ≤ b.toNat → exec (.rcal t tag [b]) s =
      .next ((s.advance t).replied { kind := 0x06, tag, body := [b] } [0x04])) ∧
    (∀ k : InputId, b.toNat = k.val + 1 →
      exec (.ginp t tag [b]) s = .next ((s.advance t).replied { kind := 0x23, tag, body := [b] }
        (0x00 :: inputStatus (s.inp.get k))) ∧ InputLayout (s.inp.get k) (0x00 :: inputStatus (s.inp.get k))) ∧
    (b.toNat = 0 ∨ 11 ≤ b.toNat → exec (.ginp t tag [b]) s =
      .next ((s.advance t).replied { kind := 0x23, tag, body := [b] } [0x04])) ∧
    (exec (.lstr t tag []) s = .next ((s.advance t).replied { kind := 0x50, tag, body := [] }
      (([0x00] : List Byte) ++ toBytes 1 s.rep.held.length ++ s.rep.held.flatMap listBytes)) ∧
      (s.rep.held.flatMap listBytes).length = 7 * s.rep.held.length ∧
      ∀ h ∈ s.rep.held, ListLayout h (listBytes h)) ∧
    (∀ n v, (toBytes n v).length = n ∧ ofBytes (toBytes n v) = v % 256 ^ n)

/-- RRPT: an unknown section is refused with PARAM_RANGE, a number that no held report carries with
NOT_FOUND; otherwise the part of the section from the first index is returned, and the reply that carries
the HEADER entry makes the report READ in its place (R169, R170); the entries stand in the layouts of R190
and R191. RELR: number 0 frees every READ report; another number frees its report when it is READ or the
force flag is set, and is refused with NOT_FOUND or UNREAD otherwise; the others keep their order; a force
byte above 1 is refused with PARAM_RANGE before the number is looked at (R171; the place of that check is
the model's choice, log 35). -/
def Obligations.ReportsAreReadAndFreed : Prop :=
  (∀ (t : Time) (tag : Byte) (body : List Byte) (s : State), LinkFree s → body.length = 4 →
     let n := field body 0 2
     let first := field body 3 1
     let f : Frame := { kind := 0x51, tag, body }
     (readSection (field body 2 1) = none →
       exec (.rrpt t tag body) s = .next ((s.advance t).replied f [0x04])) ∧
     (∀ sec, readSection (field body 2 1) = some sec →
       ((∀ h ∈ s.rep.held, h.report.shotNo ≠ n) →
         exec (.rrpt t tag body) s = .next ((s.advance t).replied f [0x08])) ∧
       (∀ h, s.rep.find n = some h →
         let held := if sec = Section.header ∧ first = 0 then
             s.rep.held.map fun (g : HeldReport) =>
               if g.report.shotNo = n then { g with unread := false } else g
           else s.rep.held
         exec (.rrpt t tag body) s = .next
           ({ s.advance t with rep := { s.rep with held := held } }.replied f
             (([0x00] : List Byte) ++ toBytes 1 (sectionEntries h.report sec).length ++ toBytes 1 first ++
               toBytes 1 (((sectionEntries h.report sec).drop first).take sec.perReply).length ++
               (((sectionEntries h.report sec).drop first).take sec.perReply).flatten))))) ∧
  (∀ r : Report, (∃ b, sectionEntries r .header = [b] ∧ HeaderLayout r b) ∧
     SectionLayout TrailLayout r.trail (sectionEntries r .trail) ∧
     (sectionEntries r .timers).length = r.timers.length ∧
     (∀ (i : Nat) (e : TimerResult), r.timers[i]? = some e →
       ∃ b, (sectionEntries r .timers)[i]? = some b ∧ TimerLayout i e b) ∧
     SectionLayout GradeLayout r.grades (sectionEntries r .grades) ∧
     (∃ one two, sectionEntries r .breakers = one ++ two ∧
       SectionLayout (OperationLayout 0) (r.ops.get 0) one ∧
       SectionLayout (OperationLayout 1) (r.ops.get 1) two) ∧
     SectionLayout LogLayout r.log (sectionEntries r .triggers) ∧
     SectionLayout MarkLayout r.marks (sectionEntries r .marks) ∧
     SectionLayout CountsLayout r.inputs (sectionEntries r .inputs)) ∧
  (∀ (n : Nat) (sec : Section), readSection n = some sec → sec.perReply = match n with
     | 0 => 1
     | 1 => 12
     | 2 => 2
     | 3 => 8
     | 4 => 12
     | 5 => 24
     | 6 => 12
     | _ => 10) ∧
  (∀ (t : Time) (tag : Byte) (body : List Byte) (s : State), LinkFree s → body.length = 3 →
     let n := field body 0 2
     let f : Frame := { kind := 0x52, tag, body }
     (2 ≤ field body 2 1 → exec (.relr t tag body) s = .next ((s.advance t).replied f [0x04])) ∧
     (n = 0 → field body 2 1 ≤ 1 → exec (.relr t tag body) s = .next
       ({ s.advance t with rep := { s.rep with held := s.rep.held.filter fun h => h.unread } }.replied
         f [0x00])) ∧
     (n ≠ 0 → field body 2 1 ≤ 1 → (∀ h ∈ s.rep.held, h.report.shotNo ≠ n) →
       exec (.relr t tag body) s = .next ((s.advance t).replied f [0x08])) ∧
     (∀ h, n ≠ 0 → s.rep.find n = some h →
       (h.unread = true → field body 2 1 = 0 →
         exec (.relr t tag body) s = .next ((s.advance t).replied f [0x09])) ∧
       (h.unread = false ∧ field body 2 1 ≤ 1 ∨ field body 2 1 = 1 → exec (.relr t tag body) s = .next
         ({ s.advance t with rep := { s.rep with
             held := s.rep.held.filter fun g => g.report.shotNo != n } }.replied f [0x00]))))

/-! ## Resets (2.7, 11.1, 11.6, 11.7) -/

/-- ERST forms the reply OK; from then on no request is executed, a waiting one is discarded, and good
frames are discarded without a reply and without LINK_ERROR (R186). -/
def Obligations.ErstAnswersAndHoldsTheLink : Prop :=
  (∀ (t : Time) (tag : Byte) (s : State), LinkFree s →
    exec (.erst t tag []) s = .next { s.advance t with
      link := { s.link.join (replyFrame .resetReply { kind := 0x03, tag, body := [] } [0x00]) with
        resetting := true, queue := [] } }) ∧
  (∀ (c : Instr) (t : Time) (f : Frame) (s : State), requestOf c = some (t, f) → s.power = .up →
    s.link.resetting = true → exec c s = .next (s.advance t)) ∧
  (∀ (s : State) (g : Frame) (rest : List Frame) (tag : Byte),
    s.link.queue = { kind := 0x03, tag, body := [] } :: g :: rest →
    mayExecute s = true → (serve 2 s).link.queue = [] ∧ (serve 2 s).link.resetting = true)

/-- The engine reset, at the instant the last character of the ERST reply has been sent, by ENGINE_RESET
or by FRAME_SENT, which are one event to the model (log 21): the sequence, the shot, the reports, the map,
the inputs, the triggers, timers, breakers and outputs take their reset values; engine time, the sample
grid, the time base, supervision, the calibration store, the rotation, the shot number counter, the strap
and the mask are kept (R38, R186). The NOTE of STARTED begins its transmission at once (log 20), and a
frame being received is abandoned (log 36). -/
def Obligations.EngineResetRestoresTheBlocks : Prop :=
  ∀ (t : Time) (s : State), s.power = .up → s.link.resetAtHead = true →
    ∃ u, exec (.engineReset t) s = .next u ∧ (∀ b, exec (.frameSent t b) s = .next u) ∧
      u.seq.st = .empty ∧ u.seq.commit = false ∧ (∀ i, u.seq.table.get i = none) ∧
      u.seq.header = { tag := 0, tail := 0, sagMode := .stop, persistence := 5 } ∧
      u.seq.shotNo = s.seq.shotNo ∧ u.seq.cancel = .never ∧ u.seq.pend = none ∧ u.seq.tailDue = none ∧
      u.rep.held = [] ∧ u.rep.cur = .noSlot ∧ (∀ i, u.rep.curves.get i = none) ∧
      (∀ i, u.rep.grades.get i = none) ∧
      u.syn.map = { reversed := s.syn.map.reversed, arrangement := .disconnected } ∧
      u.syn.settle = none ∧ (∀ o, u.syn.contactors.get o = false ∧ u.syn.dac.get o = 0) ∧
      (∀ c, (u.syn.chans.get c).psi = 0 ∧ (u.syn.chans.get c).amp = 0 ∧
        (u.syn.chans.get c).status = .clear) ∧
      (∀ k, (u.inp.get k).cfg = { wet := false, code := 6, debounce := 10, activeHigh := true,
                                  limit := 0 } ∧
        (u.inp.get k).raw = (s.inp.get k).term.closed ∧ (u.inp.get k).qual = (u.inp.get k).raw ∧
        (u.inp.get k).window = none ∧ (u.inp.get k).chatter = false ∧ (u.inp.get k).learn = none ∧
        (u.inp.get k).record = none ∧ (u.inp.get k).reading = (s.inp.get k).reading) ∧
      (∀ i, (u.trg.get i).entry = none ∧ (u.trg.get i).count = 0) ∧
      (∀ m, (u.tmr.get m).cfg.enabled = false ∧ (u.tmr.get m).run = .idle) ∧
      (∀ b, (u.brk.get b).cfg.enabled = false ∧ (u.brk.get b).op = none ∧ (u.brk.get b).ops = []) ∧
      (∀ o, u.out.get o = { owner := .nobody, closed := false }) ∧
      u.now = laterOf s.now t ∧ u.clock = s.clock ∧ u.tb = s.tb ∧ u.sup = s.sup ∧ u.cal = s.cal ∧
      u.link.strap = s.link.strap ∧ u.link.mask = s.link.mask ∧ u.link.queue = [] ∧
      u.link.resetting = false ∧ u.link.rx.phase = .hunting ∧
      (∀ i, u.link.noticeSet.get i = decide (i = 0)) ∧
      u.link.order = if s.link.mask.get 0 then
        [{ what := .note, formed := true, frame := { kind := 0x40, tag := 0, body := [0, 1] } }] else []

/-- Power-on and the release of RSTN: engine time is 0, the periodic instants begin with the multiple 0,
the strap and the interlock loop are read from the pins, every block takes its power-on values, each
thermal account stands at 2/5 of its capacity, and the link starts with the NOTE of STARTED, whose
transmission begins at once (log 20). POWER_ON of an engine that runs is a power cycle (log 29) (R1, R18,
R67, R131, R132, R142, R172). -/
def Obligations.PowerOnStartsTheEngine : Prop :=
  ∀ (pins : Pins) (s : State),
    ∃ u, exec (.powerOn pins) s = .next u ∧
      (s.power = .held → exec (.rstnRelease pins) s = .next u) ∧
      u.power = .up ∧ u.now = 0 ∧ u.seq = Sequencer.initial ∧
      (u.clock.nextSupply = 0 ∧ u.clock.nextSupervision = 0 ∧ u.clock.nextChatter = 0) ∧
      u.syn.map = { reversed := false, arrangement := .disconnected } ∧ u.syn.settle = none ∧
      (∀ o, u.syn.contactors.get o = false ∧ u.syn.dac.get o = 0) ∧
      (∀ k, (u.inp.get k).cfg = { wet := false, code := 6, debounce := 10, activeHigh := true,
                                  limit := 0 } ∧
        (u.inp.get k).raw = (pins.terms.get k).closed ∧ (u.inp.get k).qual = (u.inp.get k).raw ∧
        (u.inp.get k).reading = 0 ∧ (u.inp.get k).learn = none ∧ (u.inp.get k).record = none) ∧
      (∀ i, (u.trg.get i).entry = none) ∧ (∀ m, (u.tmr.get m).cfg.enabled = false) ∧
      (∀ b, (u.brk.get b).cfg.enabled = false) ∧
      (∀ o, u.out.get o = { owner := .nobody, closed := false }) ∧
      u.tb = { latest := none, sync := .noSync, glitch := false } ∧
      (∀ o, (u.sup.thermal.get o).heat = capacityOf u o * 2 / 5 ∧
        (u.sup.thermal.get o).given = false ∧ (u.sup.thermal.get o).hot = false ∧
        (u.sup.thermal.get o).peak = 0) ∧
      u.sup.low = 0 ∧ u.sup.sag = false ∧ u.sup.interlockOpen = pins.interlockOpen ∧
      u.rep.held = [] ∧ u.rep.cur = .noSlot ∧
      u.link.strap = pins.strap ∧ (∀ i, u.link.mask.get i = true) ∧
      (∀ i, u.link.noticeSet.get i = decide (i = 0)) ∧ u.link.queue = [] ∧
      u.link.rx.phase = .hunting ∧ u.atn = true ∧
      u.link.order =
        [{ what := .note, formed := true, frame := { kind := 0x40, tag := 0, body := [0, 1] } }]

/-- Assertion of RSTN ends any shot without a report and holds the link idle with ATN low (R38, R172; that
the reset values stand from that instant is the model's choice, log 11); the loss of power stops the engine
(that it empties the transmit order and the queue is the model's choice, log 28). Either of them leaves a
record that was being written in an unknown state, its fields under a CRC that nothing fixes (log 7), and
the working copies unchanged, and no reply is sent (R189). -/
def Obligations.RstnAndPowerLossStopTheEngine : Prop :=
  ∀ (t : Time) (s : State), s.power = .up →
    let interrupted (u : State) : Prop :=
      (s.cal.write = none → u.cal = s.cal) ∧
      (∀ w, s.cal.write = some w → ∃ crc : BitVec 16, u.cal = { s.cal with
        stored := s.cal.stored.set w.outlet { fields := w.fields, crc }
        write := none })
    (∃ u, exec (.rstnAssert t) s = .next u ∧ u.power = .held ∧ u.atn = false ∧ u.link.order = [] ∧
      u.link.queue = [] ∧ u.seq = Sequencer.initial ∧ u.rep.held = [] ∧ u.rep.cur = .noSlot ∧
      (∀ o, u.syn.dac.get o = 0) ∧ (∀ o, u.out.get o = { owner := .nobody, closed := false }) ∧
      interrupted u) ∧
    (∃ u, exec (.powerLoss t) s = .next u ∧ u.power = .off ∧ u.link.order = [] ∧ u.link.queue = [] ∧
      interrupted u)

/-- The check of the memory at power-on: an outlet's record whose CRC is that of its fields and whose
fields are in range loads the working copy and is GOOD; another takes the defaults of its kind and is
DEFAULTED. The identity record gives its serial number when its CRC matches, and none otherwise. The
records themselves stand (R184, R187; the bytes that a CRC covers are the model's choice, log 37). -/
def Obligations.CalibrationRecordsAreChecked : Prop :=
  ∀ (pins : Pins) (s : State) (o : Outlet), s.cal.write = none →
    let r := s.cal.stored.get o
    let f := r.fields
    let matching : Prop := r.crc = crc (toBytes 4 f.gain ++ signedBytes 2 f.offset ++
      if o.val < 4 then [] else toBytes 2 f.rating ++ toBytes 6 f.capacity)
    let inRange : Prop := 32768 ≤ f.gain ∧ f.gain ≤ 131071 ∧ -2048 ≤ f.offset ∧ f.offset ≤ 2047 ∧
      (o.val < 4 → f.rating = 0 ∧ f.capacity = 0) ∧
      (4 ≤ o.val → 1 ≤ f.rating ∧ f.rating ≤ 25000 ∧ 1 ≤ f.capacity ∧ f.capacity ≤ 1000000000000)
    ∃ u, exec (.powerOn pins) s = .next u ∧ u.cal.stored = s.cal.stored ∧
      u.cal.identity = s.cal.identity ∧
      (matching ∧ inRange → u.cal.working.get o = f ∧ u.cal.status.get o = .good) ∧
      (¬ (matching ∧ inRange) → u.cal.status.get o = .defaulted ∧ u.cal.working.get o =
        if o.val < 4 then { gain := 71581, offset := 0, rating := 0, capacity := 0 }
        else { gain := 85897, offset := 0, rating := 10000, capacity := 157500000000 }) ∧
      (s.cal.identity.crc = crc (toBytes 4 s.cal.identity.serial.toNat) →
        u.cal.serial = some s.cal.identity.serial) ∧
      (s.cal.identity.crc ≠ crc (toBytes 4 s.cal.identity.serial.toNat) → u.cal.serial = none)

/-! ## Calibration writes (11.7) -/

/-- WCAL is checked by link mode, then sequencer state, then operands; accepted, it begins its write and
stays the executing request without a reply. At WCAL_WRITE_COMPLETE the fields stand in the memory with a
fresh CRC and in the working copy with status WRITTEN, the outlet's accumulator is limited to the new
capacity, warning and hot status as they were, and WCAL is answered with OK; the bytes that the fresh CRC
covers are the model's choice (log 37); the request that waits behind it is executed once that reply has
joined, if fewer than two replies then stand in the transmit order (R147, R176, R179, R189). -/
def Obligations.WcalWrites : Prop :=
  (∀ (t : Time) (tag : Byte) (body : List Byte) (s : State), LinkFree s → body.length = 15 →
     let f : Frame := { kind := 0x07, tag, body }
     (s.link.strap ≠ .level1 → exec (.wcal t tag body) s = .next ((s.advance t).replied f [0x0A])) ∧
     (s.link.strap = .level1 → s.seq.st.editable = false →
       exec (.wcal t tag body) s = .next ((s.advance t).replied f [0x05])) ∧
     (s.link.strap = .level1 → s.seq.st.editable = true → readWcal body = none →
       exec (.wcal t tag body) s = .next ((s.advance t).replied f [0x04])) ∧
     (∀ o r, s.link.strap = .level1 → s.seq.st.editable = true → readWcal body = some (o, r) →
       calInRange o r = true ∧
       exec (.wcal t tag body) s = .next { s.advance t with
         link := { s.link with queue := [f] },
         cal := { s.cal with write := some { outlet := o, fields := r } } })) ∧
  (∀ (t : Time) (s : State) (w : CalWrite) (f : Frame) (behind : List Frame), s.power = .up →
     s.cal.write = some w → s.link.queue = f :: behind →
     let v : State := { s.advance t with
         cal := { s.cal with
           stored := s.cal.stored.set w.outlet
            { fields := w.fields, crc := crc (w.fields.bytes w.outlet) }
           working := s.cal.working.set w.outlet w.fields
           status := s.cal.status.set w.outlet .written
           write := none }
         sup := { s.sup with thermal := .ofFn fun o =>
           if o.val + 4 = w.outlet.val then
             { s.sup.thermal.get o with heat := min (s.sup.thermal.get o).heat w.fields.capacity }
           else s.sup.thermal.get o }
         link := { s.link with queue := behind } }
     let u := v.replied f [0x00]
     (behind = [] → exec (.wcalWriteComplete t) s = .next u) ∧
     (∀ g, behind = [g] → s.link.resetting = false →
       (u.link.replies < 2 → exec (.wcalWriteComplete t) s = .next (execute g u)) ∧
       (2 ≤ u.link.replies → exec (.wcalWriteComplete t) s = .next u)))

/-! ## Editing and committing a sequence (1.3, 1.4, 5.1, 6.1, 7.1, 10.3) -/

/-- The editing messages whose operands pass: the record, entry, configuration, curve or grade carried
fills its place, a trigger counter is zeroed, the commit flag is cleared, EMPTY is entered, the outputs
take their owners anew, and the reply is OK; nothing else changes (R9, R10, R16, R85, R101, R163, R164). -/
def Obligations.EditsTakeEffect : Prop :=
  ∀ (t : Time) (tag : Byte) (body : List Byte) (s : State), LinkFree s → s.seq.st.editable = true →
    let edited (u : State) : State :=
      { u with seq := { u.seq with commit := false, st := .empty } }.refreshOutputs
    let u := s.advance t
    (∀ i r, lengthOk 0x10 body = true → readLsta body = some (i, r) →
      exec (.lsta t tag body) s = .next ((edited
        { u with seq := { u.seq with table := u.seq.table.set i (some r) } }).replied
          { kind := 0x10, tag, body } [0x00])) ∧
    (∀ i e, body.length = 8 → readLtrg body = some (i, e) →
      exec (.ltrg t tag body) s = .next ((edited
        { u with trg := u.trg.set i { entry := some e, count := 0 } }).replied
          { kind := 0x13, tag, body } [0x00])) ∧
    (∀ m c, body.length = 10 → readCtmr body = some (m, c) →
      exec (.ctmr t tag body) s = .next ((edited
        { u with tmr := u.tmr.set m { u.tmr.get m with cfg := c } }).replied
          { kind := 0x14, tag, body } [0x00])) ∧
    (∀ c p, lengthOk 0x16 body = true → readLcrv body = some (c, p) →
      exec (.lcrv t tag body) s = .next ((edited
        { u with rep := { u.rep with curves := u.rep.curves.set c p } }).replied
          { kind := 0x16, tag, body } [0x00])) ∧
    (∀ g r, body.length = 23 → readLgrd body = some (g, r) →
      exec (.lgrd t tag body) s = .next ((edited
        { u with rep := { u.rep with grades := u.rep.grades.set g r } }).replied
          { kind := 0x17, tag, body } [0x00]))

/-- Outside EMPTY and READY the editing messages, CMIT, SMAP, CINP and LRNT are refused with
WRONG_STATE, and with operands out of range in EMPTY and READY with PARAM_RANGE; nothing else changes, but
that an LRNT of LEN 5 in EMPTY or READY uses up the free value of the byte that it does not carry (R9, R10,
R12, R64, R68, R78, R85, R101, R115, R163, R164; LRNT's lengths and its free byte are log 32). -/
def Obligations.EditsAreRefused : Prop :=
  ∀ (c : Instr) (t : Time) (f : Frame) (s : State), requestOf c = some (t, f) → LinkFree s →
    lengthOk f.kind f.body = true →
    let kinds : List Byte := [0x10, 0x11, 0x12, 0x13, 0x14, 0x15, 0x16, 0x17, 0x20, 0x21, 0x22]
    let outOfRange : Prop :=
      f.kind = 0x10 ∧ readLsta f.body = none ∨ f.kind = 0x12 ∧ readCmit f.body = none ∨
      f.kind = 0x13 ∧ readLtrg f.body = none ∨ f.kind = 0x14 ∧ readCtmr f.body = none ∨
      f.kind = 0x15 ∧ readCbrk f.body = none ∨ f.kind = 0x16 ∧ readLcrv f.body = none ∨
      f.kind = 0x17 ∧ readLgrd f.body = none ∨ f.kind = 0x20 ∧ readSmap f.body = none ∨
      f.kind = 0x21 ∧ readCinp f.body = none
    (f.kind ∈ kinds → s.seq.st.editable = false → exec c s = .next ((s.advance t).replied f [0x05])) ∧
    (outOfRange → s.seq.st.editable = true → exec c s = .next ((s.advance t).replied f [0x04])) ∧
    (f.kind = 0x22 → f.body.length = 5 → readLrnt f.body (Config.missingSplitByte s.freeCount) = none →
      s.seq.st.editable = true →
      exec c s = .next ({ s.advance t with freeCount := s.freeCount + 1 }.replied f [0x04])) ∧
    (∀ free, f.kind = 0x22 → f.body.length = 6 → readLrnt f.body free = none →
      s.seq.st.editable = true → exec c s = .next ((s.advance t).replied f [0x04]))

/-- The operands that pass the checks lie in the ranges of their rules (R68, R78, R101, R115, R163,
R164, R8, R19). -/
def Obligations.OperandsStayInRange : Prop :=
  ∀ b : List Byte,
    (∀ h, readCmit b = some h → h.tail ≤ 10000 ∧ 1 ≤ h.persistence ∧ h.persistence ≤ 50) ∧
    (∀ m c, readCtmr b = some (m, c) → c.timeout ≤ 600000 ∧ 1 ≤ c.limit ∧ c.limit ≤ 4 ∧
      (∀ k, c.mode = .count k → c.limit = 1)) ∧
    (∀ k c, readCbrk b = some (k, c) → c.openTime ≤ 1000 ∧ c.closeTime ≤ 1000) ∧
    (∀ c p, readLcrv b = some (c, some p) → 2 ≤ p.length ∧ p.length ≤ 16 ∧
      p.Pairwise (fun x y => x.m < y.m) ∧
      ∀ x ∈ p, 1 ≤ x.m ∧ x.m ≤ 1000000 ∧ x.t ≤ 600000000) ∧
    (∀ g r, readLgrd b = some (g, some r) → 1 ≤ r.lap ∧ r.lap ≤ 4 ∧ 1 ≤ r.setting ∧
      r.setting ≤ 50000 ∧ r.relTol ≤ 500 ∧ r.absTol ≤ 1000000 ∧
      (∀ e m, r.char = .definite e m → e ≤ 600000000 ∧ 1 ≤ m ∧ m ≤ 1000000)) ∧
    (∀ k c, readCinp b = some (k, c) → c.code ≤ 15 ∧ c.debounce ≤ 250 ∧ c.limit ≤ 255 ∧ c.limit ≠ 1) ∧
    (∀ free k m, readLrnt b free = some (k, m) →
      (∀ low high split, m = .fast low high split →
        low ≤ 15 ∧ high ≤ 15 ∧ 5 ≤ split ∧ split ≤ 300) ∧
      (∀ upper trim, m = .full upper trim → upper ≤ 15 ∧ -3 ≤ trim ∧ trim ≤ 3)) ∧
    (∀ n, readArm b = some (.pps n) → 1 ≤ n ∧ n ≤ 60)

/-- The body laid out by 11.8 for a legal record passes the length check and is read back as that
record, and every record that is read is legal (R3, R5, R6, R7, R10, R190). -/
def Obligations.LstaBodyReadsBack : Prop :=
  (∀ (i : StateIdx) (r : StateRecord), r.Legal →
    lengthOk 0x10 (lstaBody i r) = true ∧ readLsta (lstaBody i r) = some (i, r)) ∧
  (∀ (b : List Byte) (i : StateIdx) (r : StateRecord), readLsta b = some (i, r) → r.Legal)

/-- CLRS: the records, the header, the grades and the curves are cleared, the trigger entries and the
timers are disabled with the occurrence counters at 0, the commit flag is cleared, EMPTY is entered and the
outputs follow; everything else stands, the map, the inputs, the breakers and the reports included (R11). -/
def Obligations.ClrsClears : Prop :=
  ∀ (t : Time) (tag : Byte) (s : State), LinkFree s → s.seq.st.editable = true →
    ∃ u : State, exec (.clrs t tag []) s = .next (u.replied { kind := 0x11, tag, body := [] } [0x00]) ∧
      (∀ i, u.seq.table.get i = none) ∧
      u.seq.header = { tag := 0, tail := 0, sagMode := .stop, persistence := 5 } ∧
      u.seq.commit = false ∧ u.seq.st = .empty ∧
      (∀ i, (u.trg.get i).count = 0 ∧
        (u.trg.get i).entry = (s.trg.get i).entry.map fun e => { e with enabled := false }) ∧
      (∀ m, u.tmr.get m = { s.tmr.get m with
        cfg := { (s.tmr.get m).cfg with enabled := false } }) ∧
      (∀ i, u.rep.curves.get i = none) ∧ (∀ i, u.rep.grades.get i = none) ∧
      (∀ o, u.out.get o = match breakerDrive s o with
        | some level => { owner := .breaker, closed := level }
        | none => { owner := .nobody, closed := false }) ∧
      u.seq = { s.seq with table := u.seq.table, header := u.seq.header, commit := false, st := .empty } ∧
      u.rep = { s.rep with curves := u.rep.curves, grades := u.rep.grades } ∧
      u.now = laterOf s.now t ∧ u.power = s.power ∧ u.freeCount = s.freeCount ∧
      u.pending = s.pending ∧ u.syn = s.syn ∧ u.inp = s.inp ∧ u.brk = s.brk ∧ u.tb = s.tb ∧
      u.sup = s.sup ∧ u.cal = s.cal ∧ u.clock = s.clock ∧ u.link = s.link

/-- CBRK: a configuration carried enabled is held against the other breaker and the committed patterns,
in the order of the five checks, and the first that fails is reported with its item; one that passes
replaces the configuration and derives the breaker afresh, its operation list kept (R115, R116, R117). -/
def Obligations.CbrkConfiguresOrConflicts : Prop :=
  ∀ (t : Time) (tag : Byte) (body : List Byte) (s : State) (b : BreakerId) (c : BrkConfig),
    LinkFree s → s.seq.st.editable = true → body.length = 13 → readCbrk body = some (b, c) →
    let f : Frame := { kind := 0x15, tag, body }
    let o : BreakerId := 1 - b
    let other := (s.brk.get o).cfg
    let fails1 : Prop := c.trip ≠ none ∧ c.trip = c.close
    let fails2 : Prop := c.group ≠ none ∧ other.enabled = true ∧ other.group = c.group
    let fails3 : Prop := c.line = true ∧ other.enabled = true ∧ other.line = true
    let otherClaims (k : BoutId) : Prop :=
      other.enabled = true ∧ (other.out52a = some k ∨ other.out52b = some k)
    let fails4a (k : BoutId) : Prop := c.out52a = some k ∧ (c.out52b = some k ∨ otherClaims k)
    let fails4b (k : BoutId) : Prop := c.out52b = some k ∧ otherClaims k
    let fails5a (k : BoutId) : Prop :=
      c.out52a = some k ∧ s.seq.commit = true ∧ patternNames s.seq k = true
    let fails5b (k : BoutId) : Prop :=
      c.out52b = some k ∧ s.seq.commit = true ∧ patternNames s.seq k = true
    let conflicts (code item : Nat) : Prop :=
      exec (.cbrk t tag body) s =
        .next ((s.advance t).replied f [0x07, BitVec.ofNat 8 code, BitVec.ofNat 8 item])
    let passes4 : Prop := (∀ k, ¬ fails4a k) ∧ ∀ k, ¬ fails4b k
    let passes5 : Prop := (∀ k, ¬ fails5a k) ∧ ∀ k, ¬ fails5b k
    (c.enabled = true →
      (∀ k, c.trip = some k → fails1 → conflicts 1 (k.val + 1)) ∧
      (¬ fails1 → fails2 → conflicts 2 (o.val + 1)) ∧
      (¬ fails1 → ¬ fails2 → fails3 → conflicts 3 (o.val + 1)) ∧
      (¬ fails1 → ¬ fails2 → ¬ fails3 →
        (∀ k, fails4a k → conflicts 4 (k.val + 1)) ∧
        (∀ k, (∀ j, ¬ fails4a j) → fails4b k → conflicts 4 (k.val + 1)) ∧
        (passes4 → ∀ k, fails5a k → conflicts 5 (k.val + 1)) ∧
        (passes4 → ∀ k, (∀ j, ¬ fails5a j) → fails5b k → conflicts 5 (k.val + 1)))) ∧
    (c.enabled = false ∨ (¬ fails1 ∧ ¬ fails2 ∧ ¬ fails3 ∧ passes4 ∧ passes5) →
      exec (.cbrk t tag body) s = .next (({ s.advance t with
        seq := { s.seq with commit := false, st := .empty }
        brk := s.brk.set b { s.brk.get b with
          cfg := c
          st := if c.enabled && c.startsOpen then .opened else .closed
          op := none } }.refreshOutputs).replied f [0x00]))

/-- CMIT with a legal header: when the six checks pass, the header comes into force, the commit flag is
set, READY is entered and the outputs take their owners; otherwise the reply is CONFLICT with the code of
the first check that fails and its first item in the order of the check (the references of check 2 in the
order of R15), the commit flag is cleared, EMPTY is entered and the header stands. No record, entry,
timer, breaker, grade or curve changes (R12, R14, R15, R16). -/
def Obligations.CmitCommitsOrConflicts : Prop :=
  ∀ (t : Time) (tag : Byte) (body : List Byte) (s : State) (h : Header), LinkFree s →
    s.seq.st.editable = true → body.length = 6 → readCmit body = some h →
    let f : Frame := { kind := 0x12, tag, body }
    let record (i : StateIdx) (r : StateRecord) : Prop := s.seq.table.get i = some r
    let recordRefs (i : StateIdx) : List StateIdx := match s.seq.table.get i with
      | some r => (if r.duration = 0 then [] else r.next.toList) ++ r.exceptions.map fun e => e.source
      | none => []
    let entryRefs (i : TrigIdx) : List StateIdx := match (s.trg.get i).entry with
      | some e => if e.enabled then e.filter.toList ++ (match e.action with
          | .goto j => [j]
          | _ => []) else []
      | none => []
    let refs : List StateIdx :=
      (List.finRange 24).flatMap recordRefs ++ (List.finRange 32).flatMap entryRefs
    let clashes (i : StateIdx) : Prop := ∃ r o b, record i r ∧ r.pattern.get o = true ∧
      (s.brk.get b).cfg.enabled = true ∧
      ((s.brk.get b).cfg.out52a = some o ∨ (s.brk.get b).cfg.out52b = some o)
    let dangles (i : TrigIdx) : Prop := ∃ e, (s.trg.get i).entry = some e ∧ e.enabled = true ∧
      ((∃ m, (s.tmr.get m).cfg.enabled = false ∧ (e.event = .timerStop m ∨ e.event = .timerTimeout m ∨
          e.action = .startTimer m ∨ e.action = .stopTimer m)) ∨
       (∃ b, (s.brk.get b).cfg.enabled = false ∧ (e.event = .breakerOpen b ∨
          e.event = .breakerClosed b ∨ e.action = .trip b ∨ e.action = .close b)))
    let unresolved (i : GradeId) : Prop := ∃ g, s.rep.grades.get i = some g ∧
      ((s.tmr.get g.timer).cfg.enabled = false ∨ (s.tmr.get g.timer).cfg.mode ≠ .interval ∨
        ∃ c, g.char = .curve c ∧ s.rep.curves.get c = none)
    let passes1 : Prop := s.seq.table.get 0 ≠ none
    let passes2 : Prop := ∀ j ∈ refs, s.seq.table.get j ≠ none
    let passes3 : Prop := ∀ r, record 0 r → r.rule.mode = .immediate
    let passes4 : Prop := ∀ i, ¬ clashes i
    let passes5 : Prop := ∀ i, ¬ dangles i
    let passes6 : Prop := ∀ i, ¬ unresolved i
    let conflicts (code item : Nat) : Prop :=
      exec (.cmit t tag body) s = .next (({ s.advance t with
        seq := { s.seq with commit := false, st := .empty } }.refreshOutputs).replied f
          [0x07, BitVec.ofNat 8 code, BitVec.ofNat 8 item])
    (passes1 ∧ passes2 ∧ passes3 ∧ passes4 ∧ passes5 ∧ passes6 →
      exec (.cmit t tag body) s = .next (({ s.advance t with
        seq := { s.seq with header := h, commit := true, st := .ready } }.refreshOutputs).replied f
          [0x00])) ∧
    (¬ passes1 → conflicts 1 0) ∧
    (∀ before j behind, passes1 → refs = before ++ j :: behind →
      (∀ i ∈ before, s.seq.table.get i ≠ none) → s.seq.table.get j = none → conflicts 2 j.val) ∧
    (passes1 → passes2 → ¬ passes3 → conflicts 3 0) ∧
    (passes1 → passes2 → passes3 →
      ∀ i, clashes i → (∀ j < i, ¬ clashes j) → conflicts 4 i.val) ∧
    (passes1 → passes2 → passes3 → passes4 →
      ∀ i, dangles i → (∀ j < i, ¬ dangles j) → conflicts 5 i.val) ∧
    (passes1 → passes2 → passes3 → passes4 → passes5 →
      ∀ i, unresolved i → (∀ j < i, ¬ unresolved j) → conflicts 6 (i.val + 1))

/-! ## The outlet map and the outlets (3.2, 3.6) -/

/-- SMAP: a rotation alone takes effect at once; a change of arrangement, or any SMAP while the outlets
settle, opens every contactor and settles for 50 ms. At the end of the settle the contactors that the map
uses close and OUTLET_READY is raised. The contactors move in no other way here (R64, R65). -/
def Obligations.SmapSettlesTheOutlets : Prop :=
  (∀ (t : Time) (tag : Byte) (body : List Byte) (s : State) (m : OutletMap), LinkFree s →
    s.seq.st.editable = true → body.length = 2 → readSmap body = some m →
    let mapped (y : Synth) : State :=
      ({ s.advance t with syn := deriveOutlets false s.cal.working y }).replied
        { kind := 0x20, tag, body } [0x00]
    (s.syn.settle = none ∧ s.syn.map.arrangement = m.arrangement →
      exec (.smap t tag body) s = .next (mapped { s.syn with map := m })) ∧
    (s.syn.settle ≠ none ∨ s.syn.map.arrangement ≠ m.arrangement →
      exec (.smap t tag body) s = .next (mapped { s.syn with
        map := m
        contactors := .fill 10 false
        settle := some (after (s.advance t).now 50000) }))) ∧
  (∀ (s : State) (d : Time), s.power = .up → s.syn.settle = some d →
    let closed : Bank Bool 10 := .fill 10 (decide (s.syn.map.arrangement ≠ .disconnected))
    exec .outletSettleEnd s = .next (({ s.advance d with
      syn := { s.syn with settle := none, contactors := closed } } : State).raise .outletReady))

/-- The channel that reaches each outlet: none under DISCONNECTED; a voltage outlet takes its own
channel, a current outlet the channel of the triple that its group takes, and REVERSED exchanges the B and
C members; under PARALLEL the two shares of a channel sum to its amplitude. A current outlet's amplitude is
clamped at 25,000 and a peak code at 32,767; while the shot runs an outlet that a clamp holds joins the
clamped-outlet set, and none leaves it (R47, R48, R61, R62). -/
def Obligations.TheMapDerivesTheOutlets : Prop :=
  (∀ (m : OutletMap) (o : Outlet),
     (m.arrangement = .disconnected → routeOf m o = none) ∧
     (m.arrangement ≠ .disconnected →
       let turned (i : Nat) : Nat := if m.reversed then (if i = 1 then 2 else if i = 2 then 1 else i) else i
       ∃ c sh, routeOf m o = some (c, sh) ∧
         (o.val < 3 → c.val = turned o.val) ∧ (o.val = 3 → c.val = 3) ∧
         (∀ p < 3, o.val = 4 + p → c.val = (if m.arrangement = .swapped then 7 else 4) + turned p) ∧
         (∀ p < 3, o.val = 7 + p → c.val = (if m.arrangement = .standard then 7 else 4) + turned p) ∧
         (o.val < 4 ∨ m.arrangement ≠ .parallel → sh = .whole) ∧
         (4 ≤ o.val → o.val < 7 → m.arrangement = .parallel → sh = .first) ∧
         (7 ≤ o.val → m.arrangement = .parallel → sh = .second)) ∧
     (∀ a : Nat, Share.whole.of a = a ∧ Share.first.of a + Share.second.of a = a ∧
       Share.second.of a ≤ Share.first.of a ∧ Share.first.of a ≤ Share.second.of a + 1)) ∧
  (∀ (running : Bool) (cal : Bank CalRecord 10) (y : Synth) (o : Outlet),
     let raw : Nat := match routeOf y.map o with
       | some (c, sh) => sh.of (y.chans.get c).amp
       | none => 0
     let amp := if o.val < 4 then raw else min raw 25000
     let peak := (2 * (amp * (cal.get o).gain) + 65536) / 131072
     (deriveOutlets running cal y).amps.get o = amp ∧
     (deriveOutlets running cal y).peaks.get o = min peak 32767 ∧
     ((deriveOutlets running cal y).clamped.get o = true ↔ y.clamped.get o = true ∨
       running = true ∧ (4 ≤ o.val ∧ 25000 < raw ∨ 32767 < peak)) ∧
     (deriveOutlets running cal y).chans = y.chans ∧ (deriveOutlets running cal y).map = y.map ∧
     (deriveOutlets running cal y).contactors = y.contactors ∧
     (deriveOutlets running cal y).settle = y.settle ∧ (deriveOutlets running cal y).dac = y.dac)

/-! ## Binary inputs (04) -/

/-- CINP: the configuration takes effect and the input is derived afresh, with no edge; refused with
WRONG_STATE while the input is learning (R68). -/
def Obligations.CinpDerivesAfresh : Prop :=
  ∀ (t : Time) (tag : Byte) (body : List Byte) (s : State) (k : InputId) (c : InputConfig),
    LinkFree s → s.seq.st.editable = true → body.length = 6 → readCinp body = some (k, c) →
    let f : Frame := { kind := 0x21, tag, body }
    let i := s.inp.get k
    let level := if c.wet then decide (pickUp c.code ≤ i.term.volts) else i.term.closed
    let derived : Input :=
      { i with cfg := c, raw := level, qual := level, window := none, chatter := false, count := 0,
               early := 0 }
    (i.learn = none → exec (.cinp t tag body) s =
      .next ({ s.advance t with inp := s.inp.set k derived }.replied f [0x00])) ∧
    (i.learn ≠ none → exec (.cinp t tag body) s = .next ((s.advance t).replied f [0x05]))

/-- LRNT begins a learning on an IDLE input in mode WET, and is refused with WRONG_STATE on another. With a
LEN of 6 it carries all the fields that R191 lays out, the split level among them; with the LEN of 5 that
R191 states, the byte that it does not carry is a free value; any other LEN is BAD_LENGTH (R78; that both
lengths are taken is the model's choice, log 32). -/
def Obligations.LrntBeginsALearning : Prop :=
  ∀ (t : Time) (tag : Byte) (body : List Byte) (s : State), LinkFree s →
    let f : Frame := { kind := 0x22, tag, body }
    let i (k : InputId) := s.inp.get k
    let learns (k : InputId) (m : Method) (u : State) : Prop :=
      let learning : Input := { i k with learn := some { method := m, readings := 0, sum := 0 } }
      ((i k).cfg.wet = true → (i k).learn = none → exec (.lrnt t tag body) s =
        .next ({ u with inp := s.inp.set k learning }.replied f [0x00])) ∧
      ((i k).cfg.wet = false ∨ (i k).learn ≠ none → exec (.lrnt t tag body) s =
        .next (u.replied f [0x05]))
    (body.length ≠ 5 → body.length ≠ 6 →
      exec (.lrnt t tag body) s = .next ((s.advance t).replied f [0x03])) ∧
    (∀ k m free, s.seq.st.editable = true → body.length = 6 → readLrnt body free = some (k, m) →
      learns k m (s.advance t)) ∧
    (∀ k m, s.seq.st.editable = true → body.length = 5 →
      readLrnt body (Config.missingSplitByte s.freeCount) = some (k, m) →
      learns k m { s.advance t with freeCount := s.freeCount + 1 }) ∧
    (∀ free k low high split, readLrnt body free = some (k, .fast low high split) →
      (body.length = 6 → split = field body 4 2) ∧
      (body.length = 5 → split = field body 4 1 * 256 + free.toNat))

/-- The end of a learning: V_on is the floor of the mean; below 5 V the code stays and the outcome is
UNSET, otherwise the method gives the code; LEARN_DONE is raised; when the comparator changes its level
under the new code, that is a raw transition at that instant, taken before LEARN_DONE is raised (R80, R81;
the end is a step of its own, log 10, and a CHATTER of that transition is raised before LEARN_DONE, the
model's choice, log 34). -/
def Obligations.LearningEnds : Prop :=
  ∀ (s : State) (k : InputId) (l : Learning), s.power = .up → (s.inp.get k).learn = some l →
    l.readings = 100 →
    let i := s.inp.get k
    let vOn := l.sum / 100
    let learned (code : Nat) (full set : Bool) : Input :=
      { i with cfg := { i.cfg with code }, learn := none, record := some { full, vOn, code, set } }
    let ends (j : Input) : Prop :=
      (j.cfg.code = i.cfg.code ∨ j.compare = j.raw → exec (.learningEnd k) s =
        .next ({ s with inp := s.inp.set k j }.raise .learnDone)) ∧
      (j.cfg.code ≠ i.cfg.code → j.compare ≠ j.raw → exec (.learningEnd k) s =
        .next ((rawTransition k s.now { s with inp := s.inp.set k j }).raise .learnDone))
    (vOn < 5 → ∀ full, full = l.method.isFull → ends (learned i.cfg.code full false)) ∧
    (5 ≤ vOn → ∀ low high split, l.method = .fast low high split →
      ends (learned (if vOn < split then low else high) false true)) ∧
    (5 ≤ vOn → ∀ upper trim, l.method = .full upper trim → ∀ code : Nat,
      (∀ c ≤ upper, pickUp c ≤ vOn * 7 / 10 → c ≤ code) →
      (code = 0 ∨ code ≤ upper ∧ pickUp code ≤ vOn * 7 / 10) →
      ends (learned (max 0 (min (upper : Int) (code + trim))).toNat true true))

/-- A change at the terminals of an input: the comparator holds its level between the thresholds; a
change of level reverses the raw level and counts in the chatter window; in CHATTER it is a bounce;
otherwise, when the count exceeds a chatter limit of 2 or more, the input enters CHATTER with its
qualified level held; otherwise it opens a debounce window, or closes the open one without an edge.
Bounces and periods count in a shot (R69 to R72, R74, R75, R77). -/
def Obligations.TerminalsMoveTheInput : Prop :=
  ∀ (t : Time) (k : InputId) (term : Terminal) (s : State), s.power = .up →
    let u := s.advance t
    let inShot := s.seq.st.inShot
    let i : Input := { s.inp.get k with term }
    let level := if i.cfg.wet then
        (if pickUp i.cfg.code ≤ term.volts then true
         else if term.volts < pickUp i.cfg.code * 4 / 5 then false else i.raw)
      else term.closed
    let next := atOrAfter s.clock.nextChatter u.now
    let j : Input := { i with
      raw := !i.raw
      count := if next then i.count else min (i.count + 1) 65535
      early := if next then min (i.early + 1) 65535 else i.early }
    let n := if next then j.early else j.count
    let leaves (x : Input) : Prop :=
      exec (.rawTransition t k term) s = .next { u with inp := s.inp.set k x }
    let bounced (m : Nat) (x : Input) : Input :=
      { x with bounces := if inShot then min (x.bounces + m) 65535 else x.bounces }
    let opening := match i.window with
      | some w => if w.counted then 1 else 0
      | none => 0
    (level = i.raw → leaves i) ∧
    (level ≠ i.raw → i.chatter = true → leaves (bounced 1 j)) ∧
    let chattering : Input := { bounced (opening + 1) j with
      chatter := true
      held := i.qual
      window := none
      periods := if inShot then min (i.periods + 1) 65535 else i.periods
      inChatter := i.inChatter || inShot }
    (level ≠ i.raw → i.chatter = false → 2 ≤ i.cfg.limit → i.cfg.limit < n →
      exec (.rawTransition t k term) s =
        .next ({ u with inp := s.inp.set k chattering }.raise .chatter)) ∧
    (level ≠ i.raw → i.chatter = false → i.cfg.limit < 2 ∨ n ≤ i.cfg.limit →
      (∀ w : Window, w.opened = u.now → w.ends = after u.now (i.cfg.debounce * 100) →
        w.counted = inShot → i.window = none → leaves { j with window := some w }) ∧
      (i.window ≠ none → leaves { bounced (opening + 1) j with window := none }))

/-- The end of a debounce window qualifies the edge with the time at which the window opened; in a shot
the edge is counted and handed to the trigger table, the breakers and the timers, in an order that the
command gives; outside a shot it is the start that an arm for that edge waits for (R20, R71, R73, R74). -/
def Obligations.DebounceQualifiesTheEdge : Prop :=
  ∀ (s : State) (k : InputId) (sched : List Nat) (w : Window), s.power = .up →
    (s.inp.get k).window = some w →
    let i := s.inp.get k
    let u := s.advance w.ends
    let j : Input := { i with window := none, qual := i.raw }
    let edge : Edge := if i.raw = i.cfg.activeHigh then .active else .inactive
    let v : State := { u with inp := s.inp.set k j }
    (s.seq.st.inShot = true →
      let v' : State := { u with inp := s.inp.set k { j with edges := min (i.edges + 1) 65535 } }
      let timers := (List.finRange 8).filterMap fun m =>
        if (s.tmr.get m).cfg.enabled ∧ (s.tmr.get m).cfg.mode.input = some k then
          some (Work.timer m k edge w.opened w.ends) else none
      let commands (b : BreakerId) : List Work :=
        (if (s.brk.get b).cfg.enabled ∧ (s.brk.get b).cfg.trip = some k then [.trip b k w.ends] else []) ++
        (if (s.brk.get b).cfg.enabled ∧ (s.brk.get b).cfg.close = some k then [.close b k w.ends] else [])
      (edge = .active → exec (.debounceWindowEnd k sched) s = .next (runWorks sched
        (.route { kind := .inputActive k, time := w.opened, routed := w.ends } ::
          (commands 0 ++ commands 1 ++ timers)) v')) ∧
      (edge = .inactive → exec (.debounceWindowEnd k sched) s = .next (runWorks sched
        (.route { kind := .inputInactive k, time := w.opened, routed := w.ends } :: timers) v'))) ∧
    (s.seq.st.inShot = false →
      (s.seq.st = .armed → s.seq.source = some (.input k edge) → s.seq.startDue = none →
        exec (.debounceWindowEnd k sched) s =
          .next { v with seq := { s.seq with startDue := some w.ends } }) ∧
      (s.seq.st ≠ .armed ∨ s.seq.source ≠ some (.input k edge) ∨ s.seq.startDue ≠ none →
        exec (.debounceWindowEnd k sched) s = .next v))

/-- The boundary of the chatter windows: every count begins anew; an input in CHATTER whose count was at
most half its chatter limit returns to NORMAL, and takes its raw level when that differs from the held
level. Outside a shot that edge is the start that an arm for it waits for; in a shot it is counted and
handed to the trigger table, the breakers and the timers with the window's end as both its times, input
after input in an order that the command gives (R73, R75, R76, R118; the instant is that of the state,
log 1, and the order is log 8). -/
def Obligations.ChatterWindowsEnd : Prop :=
  (∀ (s : State) (sched : List Nat), s.power = .up →
    atOrAfter s.now s.clock.nextChatter = true →
    let t := s.clock.nextChatter
    let leaves (k : InputId) : Prop :=
      (s.inp.get k).chatter = true ∧ (s.inp.get k).count ≤ (s.inp.get k).cfg.limit / 2
    let edged (k : InputId) : Prop := leaves k ∧ (s.inp.get k).raw ≠ (s.inp.get k).held
    let starts (k : InputId) : Prop := edged k ∧ s.seq.st = .armed ∧ s.seq.startDue = none ∧
      s.seq.source = some (.input k
        (if (s.inp.get k).raw = (s.inp.get k).cfg.activeHigh then .active else .inactive))
    (s.seq.st.inShot = true → ∃ exits : List InputId, exits.Pairwise (· < ·) ∧
      (∀ k, k ∈ exits ↔ leaves k) ∧
      exec (.chatterWindowBoundary sched) s = .next (runWorks sched (exits.map fun k => .exit k t)
        { s with
          now := t
          clock := { s.clock with nextChatter := nextMultiple 1000000 t }
          inp := .ofFn fun k => { s.inp.get k with count := (s.inp.get k).early, early := 0 } })) ∧
    (s.seq.st.inShot = false →
      ∃ u, exec (.chatterWindowBoundary sched) s = .next u ∧
        (∀ k, (u.inp.get k).count = (s.inp.get k).early ∧ (u.inp.get k).early = 0 ∧
          ((u.inp.get k).chatter = true ↔ (s.inp.get k).chatter = true ∧ ¬ leaves k) ∧
          (edged k → (u.inp.get k).qual = (s.inp.get k).raw) ∧
          (¬ edged k → (u.inp.get k).qual = (s.inp.get k).qual) ∧
          u.inp.get k = { s.inp.get k with
            count := (u.inp.get k).count
            early := 0
            chatter := (u.inp.get k).chatter
            qual := (u.inp.get k).qual }) ∧
        ((∃ k, starts k) → u.seq.startDue = some t) ∧
        ((∀ k, ¬ starts k) → u.seq.startDue = s.seq.startDue) ∧
        u = { s with
          now := t
          clock := { s.clock with nextChatter := nextMultiple 1000000 t }
          inp := u.inp
          seq := { s.seq with startDue := u.seq.startDue } })) ∧
  (∀ (s : State) (k : InputId) (t : Time), s.seq.st.inShot = true →
    let i := s.inp.get k
    let edge : Edge := if i.raw = i.cfg.activeHigh then .active else .inactive
    let turned : State := { s with inp := s.inp.set k { i with
      chatter := false
      qual := i.raw
      edges := min (i.edges + 1) 65535 } }
    let timers := (List.finRange 8).filterMap fun m =>
      if (s.tmr.get m).cfg.enabled ∧ (s.tmr.get m).cfg.mode.input = some k then
        some (Work.timer m k edge t t) else none
    let commands (b : BreakerId) : List Work :=
      (if (s.brk.get b).cfg.enabled ∧ (s.brk.get b).cfg.trip = some k then [.trip b k t] else []) ++
      (if (s.brk.get b).cfg.enabled ∧ (s.brk.get b).cfg.close = some k then [.close b k t] else [])
    (i.chatter = true → i.raw = i.held →
      (Work.exit k t).act s = ({ s with inp := s.inp.set k { i with chatter := false } }, [])) ∧
    (i.chatter = true → i.raw ≠ i.held → edge = .active → (Work.exit k t).act s =
      (turned, .route { kind := .inputActive k, time := t, routed := t } ::
        (commands 0 ++ commands 1 ++ timers))) ∧
    (i.chatter = true → i.raw ≠ i.held → edge = .inactive → (Work.exit k t).act s =
      (turned, .route { kind := .inputInactive k, time := t, routed := t } :: timers)))

/-! ## The start of a shot (2.1 to 2.3, 9.3) -/

/-- Each reject source is active exactly on its condition (R137, R142, R152, R153, R155, R187). -/
def Obligations.RejectSourcesAreConditions : Prop :=
  ∀ s : State,
    (RejectSource.interlockOpen ∈ rejectSet s ↔ s.sup.interlockOpen = true) ∧
    (RejectSource.supplySag ∈ rejectSet s ↔ s.sup.sag = true) ∧
    (RejectSource.outletSettling ∈ rejectSet s ↔ s.syn.settle ≠ none) ∧
    (RejectSource.mapDisconnected ∈ rejectSet s ↔ s.syn.map.arrangement = .disconnected) ∧
    (RejectSource.mapMismatch ∈ rejectSet s ↔
      s.seq.commit = true ∧ s.syn.map.arrangement = .parallel ∧
      ((∃ i r, s.seq.table.get i = some r ∧
          ((∃ c, 7 ≤ c.val ∧ (r.chans.get c).amp ≠ 0) ∨
           (∃ p c, r.ramp = some p ∧ p.quantity = .amplitude ∧ 0 < p.step ∧ 7 ≤ c.val ∧
              p.chans.get c = true) ∨
           (∃ c a, r.rule.mode = .atAngle c a ∧ 7 ≤ c.val) ∨
           (∃ e ∈ r.exceptions, ∃ c a, e.rule.mode = .atAngle c a ∧ 7 ≤ c.val))) ∨
       ∃ b, (s.brk.get b).cfg.enabled = true ∧ (s.brk.get b).cfg.group = some .groupJ)) ∧
    (RejectSource.learning ∈ rejectSet s ↔ ∃ k, (s.inp.get k).learn ≠ none) ∧
    (RejectSource.reportFull ∈ rejectSet s ↔ 16 ≤ s.rep.held.length) ∧
    (RejectSource.noSync ∈ rejectSet s ↔ s.tb.sync = .noSync ∨ s.tb.sync = .acquiring) ∧
    (∀ o, RejectSource.outletHot o ∈ rejectSet s ↔ (s.sup.thermal.get o).hot = true) ∧
    (∀ o, RejectSource.uncalibrated o ∈ rejectSet s ↔ s.link.strap ≠ .level1 ∧
      s.syn.map.arrangement ≠ .disconnected ∧ s.cal.status.get o = .defaulted)

/-- ARM: in READY with a legal start source and no counted source active, a slot is RESERVED and ARMED is
entered, the start of NOW being due at once; otherwise it is refused, with WRONG_STATE, PARAM_RANGE, or
REJECTED and the counted sources that are active (R19, R156). -/
def Obligations.ArmReservesASlot : Prop :=
  ∀ (t : Time) (tag : Byte) (body : List Byte) (s : State), LinkFree s → body.length = 3 →
    let f : Frame := { kind := 0x30, tag, body }
    let u := s.advance t
    (s.seq.st ≠ .ready → exec (.arm t tag body) s = .next (u.replied f [0x05])) ∧
    (s.seq.st = .ready → readArm body = none →
      exec (.arm t tag body) s = .next (u.replied f [0x04])) ∧
    (∀ src, s.seq.st = .ready → readArm body = some src →
      let active (r : RejectSource) : Prop :=
        r ∈ rejectSet s ∧ (r = .noSync → ∃ n, src = .pps n)
      let armed : Sequencer := { s.seq.endContext with
        st := .armed
        source := some src
        startDue := if src = .now then some u.now else none }
      ((∀ r, ¬ active r) → exec (.arm t tag body) s =
        .next ({ u with seq := armed, rep := { s.rep with cur := .reserved } }.replied f [0x00])) ∧
      ((∃ r, active r) → ∃ set : List RejectSource, set.Nodup ∧ (∀ r, r ∈ set ↔ active r) ∧
        exec (.arm t tag body) s = .next (u.replied f (0x06 :: rejectBytes set))))

/-- DARM, STOP and ABRT: DARM and ABRT end an arm, STOP begins a soft stop in RUNNING and changes nothing
in STOPPING and TAIL, ABRT stops hard in RUNNING and STOPPING (with a tail time of 0 the tail expiry is then
due at that instant, and finalizing by it is the model's choice, log 18) and finalizes in TAIL, where the
NOTE of SHOT_ENDED joins the transmit order before the reply (the model's choice, log 39); elsewhere they
are refused with WRONG_STATE (R32, R35, R36, R39 to R42, R57). -/
def Obligations.DarmStopAndAbrt : Prop :=
  ∀ (t : Time) (tag : Byte) (s : State), LinkFree s →
    let u := s.advance t
    let frame (kind : Byte) : Frame := { kind, tag, body := [] }
    let disarmed : State := { u with
      seq := { s.seq.endContext with st := .ready, cancel := .disarm }
      rep := { s.rep with cur := .noSlot, fill := .empty } }
    let stopped : State := { u with
      seq := { s.seq with st := .stopping, endReason := some .stop, stopBegin := u.now, pend := none,
                          durationDue := none, dwellDue := none }
      syn := { s.syn with chans := s.syn.chans.map (Chan.stopRequest u.now) } }.write fun r =>
        { r with endReason := some .stop, stopBegin := relative s.seq.t0 u.now }
    (s.seq.st = .armed →
      exec (.darm t tag []) s = .next (disarmed.replied (frame 0x31) [0x00]) ∧
      exec (.abrt t tag []) s = .next (disarmed.replied (frame 0x33) [0x00])) ∧
    (s.seq.st ≠ .armed → exec (.darm t tag []) s = .next (u.replied (frame 0x31) [0x05])) ∧
    (s.seq.st = .running →
      exec (.stop t tag []) s = .next (stopped.replied (frame 0x32) [0x00])) ∧
    (s.seq.st = .stopping ∨ s.seq.st = .tail →
      exec (.stop t tag []) s = .next (u.replied (frame 0x32) [0x00])) ∧
    (s.seq.st.inShot = false → exec (.stop t tag []) s = .next (u.replied (frame 0x32) [0x05])) ∧
    (s.seq.st = .running ∨ s.seq.st = .stopping → exec (.abrt t tag []) s =
      .next ((u.hardStop .abort u.now).replied (frame 0x33) [0x00])) ∧
    (s.seq.st = .tail → exec (.abrt t tag []) s =
      .next ((finalize u.now (u.addFurther .abort)).replied (frame 0x33) [0x00])) ∧
    (s.seq.st.editable = true → exec (.abrt t tag []) s = .next (u.replied (frame 0x33) [0x05]))

/-- The start of a shot at t0: a number that no held report carries, a new report that holds the header
fields of t0, the PPS reference and the trail entry of S0 and is empty otherwise, cleared per-shot state
(a debounce window that stands open was opened before the shot, and the clamped-outlet set is empty), the
entry of S0 with the outlets derived, the auto-started timers, SHOT_STARTED, and then the routing of
SHOT_START and of STATE_ENTER(S0). The sync state recorded is the one that stands at t0: LOCKED below
1,000,201 µs after L, HOLDOVER up to 4,999,999 µs; while a HOLDOVER_ENTRY or a SYNC_TIMEOUT at or before
t0 has not been taken, the command changes nothing (R22, R23, R47, R48, R74, R102, R127, R135, R140, R148,
R159; the waiting is the model's choice, log 4, and so is the order at L + 5,000,000 µs, log 42). -/
def Obligations.ShotStartsAtT0 : Prop :=
  ∀ (s : State) (t0 : Time) (src : StartSource), s.power = .up → s.seq.st = .armed →
    s.seq.startDue = some t0 → s.seq.source = some src → s.rep.held.length ≤ 16 →
    let started (shotNo : Nat) : Report := {
        shotNo := shotNo
        tag := s.seq.header.tag
        t0 := t0
        source := src
        ppsRef := match s.tb.sync, s.tb.latest with
          | .locked, some l => some (elapsed l t0, .locked)
          | .holdover, some l => some (elapsed l t0, .holdover)
          | _, _ => none
        map := s.syn.map
        endReason := none
        further := []
        stopBegin := 0
        finalize := 0
        flags := { angleMissed := false, ppsMissed := false, chainLimit := false, stopForced := false,
                   rampLimit := false, sagSeen := false }
        clamped := .fill 10 false
        chatter := .fill 10 false
        peaks := .fill 6 0
        trail := []
        trailOver := 0
        timers := []
        grades := []
        ops := .fill 2 []
        opsOver := .fill 2 0
        log := []
        logOver := 0
        marks := []
        marksOver := 0
        inputs := [] }
    let waits : Prop := ∃ l, s.tb.latest = some l ∧
      (s.tb.sync = .locked ∧ atOrAfter (after l 1000201) t0 = true ∨
       s.tb.sync = .holdover ∧ atOrAfter (after l 5000000) t0 = true)
    (waits → exec .shotStart s = .next s) ∧
    (¬ waits → ∀ l, s.tb.latest = some l → atOrAfter l t0 = true →
      (s.tb.sync = .locked → elapsed l t0 < 1000201) ∧
      (s.tb.sync = .holdover → elapsed l t0 ≤ 4999999)) ∧
    (¬ waits → ∃ u v : State, exec .shotStart s =
          .next (route { kind := .stateEnter 0, time := t0, routed := t0 }
            (route { kind := .shotStart, time := t0, routed := t0 } (v.raise .shotStarted))) ∧
        Entered 0 (s.seq.record 0).rule.reset .start false false t0 u v ∧
        u.rep.fill = started v.seq.shotNo ∧
        v.rep = { s.rep with
          cur := .filling
          fill := { started v.seq.shotNo with trail := [
            { state := 0, tag := (s.seq.record 0).tag, time := 0, cause := .start, angleMissed := false,
              ppsMissed := false, superseded := false }] } } ∧
        u.seq.t0 = t0 ∧ (∀ i, u.seq.record i = s.seq.record i) ∧
        u.syn.chans.map Chan.psi = s.syn.chans.map Chan.psi ∧
        u.syn = { s.syn with chans := u.syn.chans, clamped := .fill 10 false } ∧ u.cal = s.cal ∧
        v.now = laterOf s.now t0 ∧ v.seq.st = .running ∧ v.seq.t0 = t0 ∧ v.seq.startDue = none ∧
        v.seq.endReason = none ∧ v.seq.further = [] ∧ v.seq.source = some src ∧ v.seq.commit = s.seq.commit ∧
        1 ≤ v.seq.shotNo ∧ v.seq.shotNo ≤ 65535 ∧ v.seq.shotNo ∉ s.rep.numbers ∧
        (s.seq.shotNo < 65535 → s.seq.shotNo + 1 ∉ s.rep.numbers → v.seq.shotNo = s.seq.shotNo + 1) ∧
        v.clock = { s.clock with anchor := some t0, nextTick := t0 } ∧
        (∀ i, (v.trg.get i).count = 0 ∧ (v.trg.get i).entry = (s.trg.get i).entry) ∧
        (∀ b, (v.brk.get b).ops = [] ∧ (v.brk.get b).overflow = 0 ∧ (v.brk.get b).op = none ∧
          (v.brk.get b).cfg = (s.brk.get b).cfg ∧
          ((s.brk.get b).cfg.enabled = true →
            (v.brk.get b).st = if (s.brk.get b).cfg.startsOpen then .opened else .closed)) ∧
        (∀ k, v.inp.get k = { s.inp.get k with
          bounces := 0
          edges := 0
          periods := 0
          inChatter := (s.inp.get k).chatter
          window := (s.inp.get k).window.map fun w => { w with counted := false } }) ∧
        (∀ c, (v.syn.chans.get c).status =
          if ∃ b, (s.brk.get b).cfg.enabled = true ∧ (s.brk.get b).cfg.startsOpen = true ∧
            inGroup (s.brk.get b).cfg.group (s.brk.get b).cfg.line c = true
          then .interrupted else .clear) ∧
        (∀ o, (v.sup.thermal.get o).peak = usageOf s o ∧
          (v.sup.thermal.get o).heat = (s.sup.thermal.get o).heat) ∧
        (∀ m, (v.tmr.get m).cfg = (s.tmr.get m).cfg ∧ (v.tmr.get m).laps = [] ∧
          (v.tmr.get m).extra = 0 ∧ (v.tmr.get m).late = 0 ∧ (v.tmr.get m).count = 0 ∧
          (v.tmr.get m).pulse = none ∧ (v.tmr.get m).lastActive = none ∧
          ((s.tmr.get m).cfg.enabled = true ∧ (s.tmr.get m).cfg.auto = true →
            (v.tmr.get m).run = .running ∧ (v.tmr.get m).start = some t0 ∧
            (v.tmr.get m).amps = some (v.syn.chans.map Chan.amp)) ∧
          ((s.tmr.get m).cfg.enabled = false ∨ (s.tmr.get m).cfg.auto = false →
            (v.tmr.get m).run = .idle ∧ (v.tmr.get m).start = none)) ∧
        v.link = s.link ∧ v.tb = s.tb ∧ v.cal = s.cal ∧ v.syn.map = s.syn.map ∧
        v.syn.contactors = s.syn.contactors)

/-! ## States in a shot (2.4, 2.5) -/

/-- DURATION_EXPIRY, once no ramp step of its tick waits: a pending transition supersedes it, and the last
stored trail entry is marked when no entry of the trail was lost (log 31); END begins a soft stop with
COMPLETE at the expiry; another state becomes the pending transition, under the exception that names the
state in force or the default rule. The timer acts once. While a ramp step of its tick waits, the command
changes nothing (R6, R24, R25, R26, R29; the latter is log 4). -/
def Obligations.DurationsExpire : Prop :=
  ∀ (s : State) (d : Time) (i : StateIdx), s.power = .up → s.seq.st = .running →
    s.seq.durationDue = some d → s.seq.inForce = some i →
    let waits : Prop := ∃ e, s.seq.dwellDue = some e ∧ atOrAfter e d = true
    let u : State := { s.advance d with seq := { s.seq with durationDue := none } }
    (waits → exec .durationExpiry s = .next s) ∧
    (¬ waits → s.seq.pend ≠ none → exec .durationExpiry s = .next (u.write fun r =>
      if r.trailOver = 0 then
        { r with trail := r.trail.modify (r.trail.length - 1) fun e => { e with superseded := true } }
      else r)) ∧
    (¬ waits → s.seq.pend = none → (s.seq.record i).next = none →
      let v : State := { u with
        seq := { u.seq with st := .stopping, endReason := some .complete, stopBegin := d,
                            dwellDue := none }
        syn := { s.syn with chans := s.syn.chans.map (Chan.stopRequest d) } }
      exec .durationExpiry s = .next (v.write fun r =>
        { r with endReason := some .complete, stopBegin := relative s.seq.t0 d })) ∧
    (∀ target, ¬ waits → s.seq.pend = none → (s.seq.record i).next = some target →
      ∃ p : Pending, exec .durationExpiry s = .next { u with seq := { u.seq with pend := some p } } ∧
        p.target = target ∧ p.cause = .expiry ∧ p.source = i ∧ p.request = d ∧ p.pulse = none ∧
        (∀ e ∈ (s.seq.record target).exceptions, e.source = i →
          ((s.seq.record target).exceptions.map fun x => x.source).Nodup → p.rule = e.rule) ∧
        ((∀ e ∈ (s.seq.record target).exceptions, e.source ≠ i) →
          p.rule = (s.seq.record target).rule) ∧
        (p.rule.mode = .immediate → p.deadline = none) ∧
        (p.rule.mode = .atPps → p.deadline = some (after d 1000200)) ∧
        (∀ c a, p.rule.mode = .atAngle c a → p.deadline = some (after d 1000000) ∧
          (p.untestable = true ↔ (s.syn.chans.get c).freq = 0 ∨ (s.syn.chans.get c).amp = 0)))

/-- RAMP_STEP: every channel of the ramp is stepped and held within its limits, an AMPLITUDE step derives
the outlet amplitudes, the peak codes and the clamped-outlet set anew, RAMP_LIMIT is set when a channel is
held, the steps taken go up by one, and RAMP_STEP is routed, with RAMP_END after the last (R7, R30, R47,
R48). -/
def Obligations.RampsStep : Prop :=
  ∀ (s : State) (d : Time) (i : StateIdx) (p : Ramp), s.power = .up → s.seq.st = .running →
    s.seq.dwellDue = some d → s.seq.inForce = some i → (s.seq.record i).ramp = some p →
    let n := s.seq.rampSteps + 1
    let stepEvent : Event := { kind := .rampStep, time := d, routed := d }
    let endEvent : Event := { kind := .rampEnd, time := d, routed := d }
    let limit (c : Channel) : Int := if c.val < 4 then 30000 else 50000
    let held (c : Channel) : Prop := p.chans.get c = true ∧
      (p.quantity = .amplitude ∧ (((s.syn.chans.get c).amp : Int) + p.step < 0 ∨
          limit c < (s.syn.chans.get c).amp + p.step) ∨
       p.quantity = .frequency ∧ (((s.syn.chans.get c).freq : Int) + p.step < 0 ∨
          1000000 < ((s.syn.chans.get c).freq : Int) + p.step))
    ∃ v : State,
      (n ≠ p.count → exec .rampStep s = .next (route stepEvent v)) ∧
      (n = p.count → exec .rampStep s = .next (route endEvent (route stepEvent v))) ∧
      v.now = laterOf s.now d ∧ v.seq.rampSteps = n ∧
      v.seq.dwellDue = (if n = p.count then none else some (after d (p.dwell * 1000))) ∧
      (s.rep.cur = .filling → (v.rep.fill.flags.rampLimit = true ↔
        s.rep.fill.flags.rampLimit = true ∨ ∃ c, held c)) ∧
      (∀ c, p.chans.get c = false → v.syn.chans.get c = s.syn.chans.get c) ∧
      (∀ c, p.chans.get c = true → p.quantity = .amplitude →
        ((v.syn.chans.get c).amp : Int) = max 0 (min (limit c) ((s.syn.chans.get c).amp + p.step)) ∧
        v.syn.chans.get c = { s.syn.chans.get c with amp := (v.syn.chans.get c).amp }) ∧
      (∀ c, p.chans.get c = true → p.quantity = .phase →
        ((v.syn.chans.get c).angle : Int) = ((s.syn.chans.get c).angle + p.step) % 36000 ∧
        v.syn.chans.get c = { s.syn.chans.get c with
          angle := (v.syn.chans.get c).angle
          phi := offsetWord (v.syn.chans.get c).angle
          fresh := true }) ∧
      (∀ c, p.chans.get c = true → p.quantity = .frequency →
        ((v.syn.chans.get c).freq : Int) =
          max 0 (min 1000000 ((s.syn.chans.get c).freq + p.step)) ∧
        v.syn.chans.get c = { s.syn.chans.get c with
          freq := (v.syn.chans.get c).freq
          delta := increment (v.syn.chans.get c).freq }) ∧
      (let d := deriveOutlets true s.cal.working { s.syn with chans := v.syn.chans }
       v.syn = if p.quantity = .amplitude then d else { s.syn with chans := v.syn.chans }) ∧
      v.seq.table = s.seq.table ∧ v.seq.inForce = some i ∧ v.seq.pend = s.seq.pend ∧
      v.trg = s.trg ∧ v.tmr = s.tmr ∧ v.brk = s.brk ∧ v.out = s.out ∧ v.link = s.link

/-- TRANSITION_ENTRY: an IMMEDIATE transition is taken at the first tick after its request; AT_ANGLE at
the due tick when the reference crosses the angle there (a phase word that stands still crosses nothing,
the model's reading, log 17, and a reference of frequency or amplitude 0 crosses nothing from the tick of
the ramp step on, log 41), or with ANGLE_MISSED when that tick is 1,000,000 µs or more after the request,
or at once when the reference could not be tested; AT_PPS at the first tick at or after the pulse, or with
PPS_MISSED after 1,000,200 µs. STATE_EXIT of the old state is routed and then STATE_ENTER of the new one.
While a ramp step or an expiry of the entry tick waits, the command changes nothing (R26, R27, R28, R29,
R139; the latter is the model's choice, log 4). -/
def Obligations.TransitionsAreTaken : Prop :=
  ∀ (s : State) (p : Pending) (old : StateIdx), s.power = .up → s.seq.st = .running →
    s.seq.pend = some p → s.seq.inForce = some old → s.rep.cur = .filling →
    let grid := s.clock.anchor
    let waits (tick : Time) : Prop := (∃ e, s.seq.dwellDue = some e ∧ atOrAfter e tick = true) ∨
      ∃ e, s.seq.durationDue = some e ∧ atOrAfter e tick = true
    let taken (tick : Time) (a m : Bool) : Prop :=
      (waits tick → exec .transitionEntry s = .next s) ∧ (¬ waits tick → ∃ v : State,
      exec .transitionEntry s =
        .next (route { kind := .stateEnter p.target, time := tick, routed := tick }
          (route { kind := .stateExit old, time := tick, routed := tick } v)) ∧
      Entered p.target p.rule.reset p.cause a m tick (s.advance tick) v ∧
      v.now = laterOf s.now tick ∧ v.seq.st = .running ∧
      (∀ c, (v.syn.chans.get c).status = (s.syn.chans.get c).status) ∧ v.syn.dac = s.syn.dac ∧
      v.syn.map = s.syn.map ∧ v.syn.contactors = s.syn.contactors ∧
      v.trg = s.trg ∧ v.tmr = s.tmr ∧ v.brk = s.brk ∧ v.inp = s.inp ∧ v.link = s.link)
    let target (a : Nat) (c : Chan) : Prop :=
      c.freq ≠ 0 ∧ c.amp ≠ 0 ∧ 0 < (offsetWord a - c.prev).toNat ∧
        (offsetWord a - c.prev).toNat ≤ (c.psi + c.phi - c.prev).toNat
    (p.rule.mode = .immediate → taken (tickAfter grid p.request) false false) ∧
    (∀ t, p.rule.mode = .atPps → p.pulse = some t → taken (tickAtOrAfter grid t) false false) ∧
    (p.rule.mode = .atPps → p.pulse = none →
      taken (tickAfter grid (after p.request 1000200)) false true) ∧
    (∀ c a, p.rule.mode = .atAngle c a →
      (p.untestable = true → taken (tickAfter grid p.request) true false) ∧
      (p.untestable = false → isAfter p.request (tickDue s) = true →
        (target a (s.syn.chans.get c) → taken (tickDue s) false false) ∧
        (¬ target a (s.syn.chans.get c) →
          atOrAfter (after p.request 1000000) (tickDue s) = true → taken (tickDue s) true false) ∧
        (¬ target a (s.syn.chans.get c) →
          atOrAfter (after p.request 1000000) (tickDue s) = false →
          exec .transitionEntry s = .next s)) ∧
      (p.untestable = false → isAfter p.request (tickDue s) = false →
        exec .transitionEntry s = .next s))

/-! ## The end of a shot (2.6, 2.7) -/

/-- A hard cause in RUNNING records its end reason, cancels what waits, mutes every outlet at once and
enters TAIL with the outputs of the sequence open; in STOPPING it mutes and enters TAIL, and joins the
further causes once, in the report too; in TAIL it only joins them; outside a shot it stops nothing (R34,
R35, R36, R58, R159; that TAIL stands until a TAIL_EXPIRY also with a tail time of 0 is the model's
choice, log 18). -/
def Obligations.HardStopsMuteAtOnce : Prop :=
  ∀ (s : State) (c : HardCause) (t : Time),
    let v := s.hardStop c t
    let further := if c ∈ s.seq.further then s.seq.further else s.seq.further ++ [c]
    let cut : Prop := v.seq.st = .tail ∧
      v.seq.tailDue = some (after t (s.seq.header.tail * 1000)) ∧
      (∀ i, (v.syn.chans.get i).status = .stopped) ∧ (∀ o, v.syn.dac.get o = 0) ∧
      (∀ o, (v.out.get o).owner = .sequence → (v.out.get o).closed = false)
    (s.seq.st = .running → cut ∧ v.seq.endReason = some (.hard c) ∧ v.seq.stopBegin = t ∧
      v.seq.pend = none ∧ v.seq.durationDue = none ∧ v.seq.dwellDue = none ∧
      v.seq.further = s.seq.further ∧
      (s.rep.cur = .filling → v.rep.fill = { s.rep.fill with
        endReason := some (.hard c)
        stopBegin := relative s.seq.t0 t })) ∧
    (s.seq.st = .stopping → cut ∧ v.seq.endReason = s.seq.endReason ∧
      v.seq.stopBegin = s.seq.stopBegin ∧ v.seq.further = further) ∧
    (s.seq.st = .tail → v.seq = { s.seq with further := further } ∧ v.syn = s.syn ∧ v.out = s.out) ∧
    (s.seq.st = .stopping ∨ s.seq.st = .tail → s.rep.cur = .filling →
      (c ∈ s.seq.further → v.rep = s.rep) ∧
      (c ∉ s.seq.further → v.rep.fill = { s.rep.fill with further := s.seq.further ++ [c] })) ∧
    (s.seq.st.inShot = false → v = s) ∧
    v.trg = s.trg ∧ v.tmr = s.tmr ∧ v.brk = s.brk ∧ v.inp = s.inp ∧ v.sup = s.sup ∧ v.tb = s.tb ∧
    v.link = s.link ∧ v.rep.held = s.rep.held

/-- The other ends: LENGTH_LIMIT soft-stops a shot still RUNNING at t0 + 4,000,000,000 µs, once no ramp
step, no expiry and no entry of that tick waits, and changes nothing while one does; FORCED_CUT silences the
channels still waiting at the first tick at or after stop-begin + 50,000 µs, sets STOP_FORCED and enters
TAIL; TAIL_EXPIRY finalizes the shot, with a tail time of 0 at the instant TAIL was entered (R31, R33, R36,
R57; log 4, log 18). -/
def Obligations.ShotsEnd : Prop :=
  ∀ s : State, s.power = .up →
    (s.seq.st = .running →
      let d := after s.seq.t0 4000000000
      let waits : Prop := (∃ e, s.seq.dwellDue = some e ∧ atOrAfter e d = true) ∨
        (∃ e, s.seq.durationDue = some e ∧ atOrAfter e d = true) ∨
        ∃ p e a m, s.seq.pend = some p ∧ entryOf s p = some (e, a, m) ∧ atOrAfter e d = true
      let stopped : State := { s.advance d with
        seq := { s.seq with st := .stopping, endReason := some .lengthLimit, stopBegin := d,
                            pend := none, durationDue := none, dwellDue := none }
        syn := { s.syn with chans := s.syn.chans.map (Chan.stopRequest d) } }
      (waits → exec .lengthLimit s = .next s) ∧
      (¬ waits → exec .lengthLimit s = .next (stopped.write fun r =>
        { r with endReason := some .lengthLimit, stopBegin := relative s.seq.t0 d }))) ∧
    (s.seq.st ≠ .running → exec .lengthLimit s = .next s) ∧
    (s.seq.st = .stopping → (∃ c, (s.syn.chans.get c).status = .stopPending) →
      let tick := tickAtOrAfter s.clock.anchor (after s.seq.stopBegin 50000)
      ∃ v : State, exec .forcedCut s = .next v ∧
        v.seq = { s.seq with st := .tail, tailDue := some (after tick (s.seq.header.tail * 1000)) } ∧
        (∀ c, v.syn.chans.get c = { s.syn.chans.get c with
          status := if (s.syn.chans.get c).status = .stopPending then .stopped
            else (s.syn.chans.get c).status }) ∧
        (∀ o, v.syn.dac.get o = 0) ∧
        (∀ o, (v.out.get o).owner = .sequence → (v.out.get o).closed = false) ∧
        (s.rep.cur = .filling → v.rep.fill =
          { s.rep.fill with flags := { s.rep.fill.flags with stopForced := true } }) ∧
        v.now = laterOf s.now tick ∧ v.trg = s.trg ∧ v.tmr = s.tmr ∧ v.brk = s.brk ∧
        v.inp = s.inp ∧ v.link = s.link) ∧
    (∀ d, s.seq.st = .tail → s.seq.tailDue = some d →
      exec .tailExpiry s = .next (finalize d (s.advance d)))

/-- Finalization: the timer results, the grades, the counts of the inputs and the header fields of
finalization go into the report, whose other fields and lists stand as the shot wrote them; it becomes the
newest held one, UNREAD; SHOT_ENDED is raised; each enabled breaker returns to its initial state, and the
sequencer to READY with its context ended; the commit flag, the counter and the cancel reason stand (R37,
R113, R128, R158, R159, R161). -/
def Obligations.FinalizationHoldsTheReport : Prop :=
  ∀ (s : State) (t : Time), s.rep.cur = .filling →
    let v := finalize t s
    (∃ r : Report, v.rep.held = s.rep.held ++ [{ report := r, unread := true }] ∧
      r = { s.rep.fill with
        finalize := relative s.seq.t0 t
        clamped := s.syn.clamped
        timers := r.timers
        grades := r.grades
        chatter := r.chatter
        peaks := r.peaks
        inputs := r.inputs } ∧
      r.timers.length = 8 ∧ r.inputs.length = 10 ∧
      (∀ m : TimerId, ∃ x, r.timers[m.val]? = some x ∧ x.mode = (s.tmr.get m).cfg.mode ∧
        x.start = (s.tmr.get m).start.map (relative s.seq.t0) ∧ x.laps = (s.tmr.get m).laps ∧
        x.count = (s.tmr.get m).count ∧ x.extra = (s.tmr.get m).extra ∧
        x.late = (s.tmr.get m).late ∧
        x.outcome = if (s.tmr.get m).cfg.enabled = false then .disabled
          else match (s.tmr.get m).run with
            | .idle => .notStarted
            | .running => .opened
            | .stopped => .stopped
            | .timedOut => .timedOut) ∧
      (∀ i g, s.rep.grades.get i = some g →
        gradeOne s.rep.curves s.tmr i g ∈ r.grades) ∧
      (∀ e ∈ r.grades, ∃ g, s.rep.grades.get e.grade = some g) ∧
      (r.grades.map fun e => e.grade).Pairwise (· < ·) ∧
      (∀ k : InputId, r.chatter.get k = (s.inp.get k).inChatter ∧
        ∃ x, r.inputs[k.val]? = some x ∧ x.bounces = (s.inp.get k).bounces ∧
          x.edges = (s.inp.get k).edges ∧ x.periods = (s.inp.get k).periods) ∧
      (∀ o, r.peaks.get o = (s.sup.thermal.get o).peak)) ∧
    v.rep.cur = .noSlot ∧ v.link = s.link.raise .shotEnded ∧
    v.seq = { s.seq.endContext with st := .ready } ∧
    (∀ b, (v.brk.get b).ops = (s.brk.get b).ops ∧ (v.brk.get b).op = none ∧
      ((s.brk.get b).cfg.enabled = true →
        (v.brk.get b).st = if (s.brk.get b).cfg.startsOpen then .opened else .closed)) ∧
    (∀ o, (v.out.get o).owner = .sequence → (v.out.get o).closed = false) ∧
    v.syn = s.syn ∧ v.inp = s.inp ∧ v.trg = s.trg ∧ v.sup = s.sup ∧ v.cal = s.cal ∧
    v.rep.curves = s.rep.curves ∧ v.rep.grades = s.rep.grades

/-- Grading: a timer that never started gives NOT_GRADED alone; otherwise the multiple of setting, the
expected time of the characteristic, the band and the verdict follow (R165, R166, R167). -/
def Obligations.GradesFollowTheCharacteristic : Prop :=
  ∀ (curves : Bank (Option (List Point)) 4) (tmr : Bank Timer 8) (i : GradeId) (g : Grade),
    0 < g.setting →
    let e := gradeOne curves tmr i g
    let tm := tmr.get g.timer
    (tm.start = none → e = { grade := i, verdict := .notGraded, m := none, expected := none,
                             measured := none, band := none }) ∧
    (∀ t0 amps, tm.start = some t0 → tm.amps = some amps → 1 ≤ g.lap →
      let m := (2 * ((amps.get g.ref) * 1000) + g.setting) / (2 * g.setting)
      let half (num : Int) (den : Nat) : Int :=
        if num < 0 then -((2 * num.natAbs + den) / (2 * den) : Nat) else ((2 * num.natAbs + den) / (2 * den) : Nat)
      e.grade = i ∧ e.m = some m ∧
      (∀ tExp pick, g.char = .definite tExp pick →
        (m < pick → e.expected = none) ∧ (pick ≤ m → e.expected = some tExp)) ∧
      (∀ c points, g.char = .curve c → curves.get c = some points →
        points.Pairwise (fun p q => p.m < q.m) →
        (∀ p, points.head? = some p → m < p.m → e.expected = none) ∧
        (∀ p, points.getLast? = some p → p.m ≤ m → e.expected = some p.t) ∧
        (∀ (k : Nat) p q, points[k]? = some p → points[k + 1]? = some q → p.m ≤ m → m < q.m →
          ∃ x : Nat, e.expected = some x ∧
            (x : Int) = p.t + half (((q.t : Int) - p.t) * ((m : Int) - p.m)) (q.m - p.m))) ∧
      (∀ x, e.expected = some x →
        e.band = some (max ((2 * (x * g.relTol) + 1000) / 2000) g.absTol)) ∧
      (e.expected = none → e.band = none) ∧
      (∀ l, tm.laps[g.lap - 1]? = some l → e.measured = some (l.value, l.early) ∧
        (∀ x b, e.expected = some x → e.band = some b →
          (l.value + b < x → e.verdict = .failEarly) ∧ (x + b < l.value → e.verdict = .failLate) ∧
          (x ≤ l.value + b → l.value ≤ x + b → e.verdict = .pass)) ∧
        (e.expected = none → e.verdict = .failUnexpectedTrip)) ∧
      (tm.laps[g.lap - 1]? = none → e.measured = none ∧
        (e.expected = none → e.verdict = .passNoTrip) ∧
        (e.expected ≠ none → e.verdict = .failNoTrip)))

/-! ## Samples and silencing (3.3, 3.4, 3.5) -/

/-- SAMPLE_TICK: every code is 0 outside RUNNING and STOPPING, and on an outlet that is not live or whose
channel is silenced after the resolution of the tick; otherwise it is the code of the five stages, and
every accumulator advances. The tick at which the last channel becomes STOPPED enters TAIL; there no
accumulator advances, the model's reading (log 14), and a tail time of 0 leaves finalization to TAIL_EXPIRY,
the model's choice (log 18). In RUNNING the sample follows the ramp step, the expiry and the entry of its
tick, and in STOPPING a forced cut that the tick needs, and the command changes nothing while one of them
waits (R27, R28, R29, R33, R46, R50, R51, R57, R59; the instant of the tick is that of the state, log 1, and
the waiting is the model's choice, log 4). -/
def Obligations.SampleTickEmitsTheCodes : Prop :=
  (∀ s : State, s.power = .up → atOrAfter s.now s.clock.nextTick = true →
    let tick := s.clock.nextTick
    let ticked (u : State) : State :=
      { u with clock := { s.clock with nextTick := tickAfter s.clock.anchor tick } }
    let x (c : Channel) := (s.syn.chans.get c).resolve tick
    let code (w : Phase) (peak : Nat) (offset : Int) (v : Int) : Prop :=
      let n := sineTable (w.toNat / 1048576) * (peak : Int)
      let p : Int := if n < 0 then -(((2 * n.natAbs + 32768) / 65536 : Nat) : Int)
        else ((2 * n.natAbs + 32768) / 65536 : Nat)
      v = max (-32767) (min 32767 (p + offset))
    let last : Prop := s.seq.st = .stopping ∧ ∀ c, (x c).status = .stopped
    (s.seq.st.driving = false → exec .sampleTick s =
      .next (ticked { s with now := tick, syn := { s.syn with dac := .fill 10 0 } })) ∧
    let waits : Prop := s.seq.st = .running ∧
      ((∃ e, s.seq.dwellDue = some e ∧ atOrAfter e tick = true) ∨
       (∃ e, s.seq.durationDue = some e ∧ atOrAfter e tick = true) ∨
       ∃ p e a m, s.seq.pend = some p ∧ entryOf s p = some (e, a, m) ∧ atOrAfter e tick = true)
    let cut : Prop := s.seq.st = .stopping ∧
      atOrAfter (tickAtOrAfter s.clock.anchor (after s.seq.stopBegin 50000)) tick = true ∧
      ∃ c, (x c).status = .stopPending
    (waits → exec .sampleTick s = .next s) ∧ (cut → exec .sampleTick s = .next s) ∧
    (s.seq.st.driving = true → ¬ waits → ¬ cut → ¬ last → ∃ v : State, exec .sampleTick s = .next v ∧
      (∀ c, v.syn.chans.get c = { x c with
        psi := (x c).psi + (x c).delta
        prev := (x c).psi + (x c).phi
        fresh := false }) ∧
      (∀ o, (routeOf s.syn.map o = none → v.syn.dac.get o = 0) ∧
        (∀ c sh, routeOf s.syn.map o = some (c, sh) →
          let silent : Prop := s.syn.contactors.get o = false ∨ (x c).status = .interrupted ∨
            (x c).status = .restoring ∨ (x c).status = .stopped
          (silent → v.syn.dac.get o = 0) ∧
          (¬ silent → code ((x c).psi + (x c).phi) (s.syn.peaks.get o) (s.cal.working.get o).offset
            (v.syn.dac.get o)))) ∧
      v = ticked { s with now := tick, syn := { s.syn with chans := v.syn.chans, dac := v.syn.dac } }) ∧
    (last → ∃ v : State, v.seq = { s.seq with
          st := .tail
          tailDue := some (after tick (s.seq.header.tail * 1000)) } ∧
      (∀ o, (v.out.get o).owner = .sequence → (v.out.get o).closed = false) ∧
      (∀ c, v.syn.chans.get c = x c) ∧ v.now = tick ∧ v.link = s.link ∧ v.rep = s.rep ∧
      v.syn.amps = s.syn.amps ∧ v.syn.peaks = s.syn.peaks ∧ v.syn.clamped = s.syn.clamped ∧
      v.trg = s.trg ∧ v.tmr = s.tmr ∧ v.brk = s.brk ∧ v.inp = s.inp ∧ v.sup = s.sup ∧
      exec .sampleTick s = .next (ticked { v with syn := { v.syn with dac := .fill 10 0 } }))) ∧
  (sineTable 0 = 0 ∧ sineTable 1024 = 32767 ∧ sineTable 2048 = 0 ∧ sineTable 3072 = -32767 ∧
    (∀ k, 1 ≤ k → k ≤ 4095 → sineTable (4096 - k) = -sineTable k) ∧
    (∀ k, 1 ≤ k → k ≤ 1023 → sineTable (2048 - k) = sineTable k)) ∧
  (∀ f : Nat, f ≤ 1000000 → 2 * (f * 2 ^ 32) < (2 * (increment f).toNat + 1) * 10000000 ∧
    2 * ((increment f).toNat : Int) * 10000000 ≤ 2 * (f * 2 ^ 32) + 10000000) ∧
  (∀ a : Nat, a ≤ 35999 → 2 * (a * 2 ^ 32) < (2 * (offsetWord a).toNat + 1) * 36000 ∧
    2 * ((offsetWord a).toNat : Int) * 36000 ≤ 2 * (a * 2 ^ 32) + 36000)

/-- The silence status of a channel: what an interrupt, a restore and a stop request, a mute and the
forced cut make of it, and how a tick after the request time resolves it: a pending silencing at a zero
crossing, or when frequency or amplitude is 0, a restoration at once (R53, R55 to R59). That a stop
request which replaces a pending interruption carries the stop-begin time is the model's choice (log 43).
-/
def Obligations.SilenceStatusesFollowTheTables : Prop :=
  ∀ (c : Chan) (t : Time),
    let becomes (d : Chan) (st : Silence) : Prop := d.status = st ∧ d = { c with status := st, since := d.since }
    let turns (st : Silence) (d : Chan) (result : Silence) : Prop :=
      c.status = st → becomes d result ∧ (d.since = c.since ∨ d.since = t)
    let quiet : Prop := c.freq = 0 ∨ c.amp = 0 ∨
      c.fresh = false ∧ (c.psi + c.phi).toNat / 2 ^ 31 ≠ c.prev.toNat / 2 ^ 31
    (turns .clear (c.interrupt t) .interruptPending ∧ (c.status = .clear → (c.interrupt t).since = t) ∧
      turns .interruptPending (c.interrupt t) .interruptPending ∧
      (c.status = .interruptPending → c.interrupt t = c) ∧
      turns .interrupted (c.interrupt t) .interrupted ∧ turns .restoring (c.interrupt t) .interrupted ∧
      turns .stopPending (c.interrupt t) .stopPending ∧ turns .stopped (c.interrupt t) .stopped) ∧
    (turns .clear (c.restore t) .clear ∧ turns .interruptPending (c.restore t) .clear ∧
      turns .interrupted (c.restore t) .restoring ∧
      (c.status = .interrupted → (c.restore t).since = t) ∧
      turns .restoring (c.restore t) .restoring ∧ (c.status = .restoring → c.restore t = c) ∧
      turns .stopPending (c.restore t) .stopPending ∧ turns .stopped (c.restore t) .stopped) ∧
    (turns .clear (c.stopRequest t) .stopPending ∧
      turns .interruptPending (c.stopRequest t) .stopPending ∧
      ((c.status = .clear ∨ c.status = .interruptPending) → (c.stopRequest t).since = t) ∧
      turns .interrupted (c.stopRequest t) .stopped ∧ turns .restoring (c.stopRequest t) .stopped ∧
      turns .stopPending (c.stopRequest t) .stopPending ∧
      (c.status = .stopPending → c.stopRequest t = c) ∧
      turns .stopped (c.stopRequest t) .stopped) ∧
    c.mute = { c with status := .stopped } ∧
    (c.status = .stopPending → c.cut = { c with status := .stopped }) ∧
    (c.status ≠ .stopPending → c.cut = c) ∧
    ((isAfter c.since t = false → c.resolve t = c) ∧
      (isAfter c.since t = true →
        (c.status = .interruptPending → quiet → becomes (c.resolve t) .interrupted) ∧
        (c.status = .stopPending → quiet → becomes (c.resolve t) .stopped) ∧
        (c.status = .interruptPending ∨ c.status = .stopPending → ¬ quiet → c.resolve t = c) ∧
        (c.status = .restoring → becomes (c.resolve t) .clear) ∧
        (c.status = .clear ∨ c.status = .interrupted ∨ c.status = .stopped → c.resolve t = c)))

/-! ## Output supervision (09) -/

/-- SUPERVISION_INTERVAL: H becomes min(W, max(0, H + A² − C²)); the warning is given at 800 per-mille
and armed below 700, the outlet is HOT when H reaches W from below and COOL below 500, and the peak usage
follows in a shot. The notices are raised, OVERLOAD_WARN before OVERLOAD (the model's choice, log 34), and
every overloaded outlet's hard stop is taken, in an order that the command gives (R143 to R146, R148; the
instant is that of the state, log 1, and the stop leaves finalization to TAIL_EXPIRY also with a tail time
of 0, the model's choice, log 18). -/
def Obligations.SupervisionChargesTheOutlets : Prop :=
  ∀ (s : State) (sched : List Nat), s.power = .up →
    atOrAfter s.now s.clock.nextSupervision = true →
    let t := s.clock.nextSupervision
    let w := capacityOf s
    let charge (o : CurrentOutlet) : Int :=
      (s.sup.thermal.get o).heat + (amplitudeInEffect s.seq.st.driving s.syn (outletOf o) : Int) ^ 2 -
        (ratingOf s o : Int) ^ 2
    let hits (o : CurrentOutlet) (heat : Nat) : Prop := (s.sup.thermal.get o).heat < w o ∧ heat = w o
    ∃ thermal : Bank Thermal 6,
      (∀ o, let h := s.sup.thermal.get o
        let h' := thermal.get o
        let use := h'.heat * 1000 / w o
        (h'.heat : Int) = min (w o : Int) (max 0 (charge o)) ∧
        (h'.given = true ↔ 800 ≤ use ∨ h.given = true ∧ 700 ≤ use) ∧
        (h'.hot = true ↔ hits o h'.heat ∨ h.hot = true ∧ 500 ≤ use) ∧
        h'.peak = if s.seq.st.inShot then max h.peak use else h.peak) ∧
      let warns : Prop := ∃ o, (s.sup.thermal.get o).given = false ∧ (thermal.get o).given = true
      let v : State := { s with
        now := t
        sup := { s.sup with thermal }
        clock := { s.clock with nextSupervision := nextMultiple 10000 t } }
      let told (u : State) : Prop := (warns → u = v.raise .overloadWarn) ∧ (¬ warns → u = v)
      ∃ u, told u ∧
        ((∀ o, ¬ hits o (thermal.get o).heat) →
          exec (.supervisionInterval sched) s = .next u) ∧
        ((∃ o, hits o (thermal.get o).heat) → ∃ order : List CurrentOutlet, order.Nodup ∧
          (∀ o, o ∈ order ↔ hits o (thermal.get o).heat) ∧
          exec (.supervisionInterval sched) s = .next
            (order.foldl (fun x o => x.hardStop (.overload o) t) (u.raise .overload)))

/-- SUPPLY_CHECK: the low count, the sag condition against the persistence in force, and the level
readings; an onset cancels an arm, sets SAG_SEEN in a shot and, in sag mode STOP, stops it hard (R70, R79,
R149, R150; the levels are operands of the check, log 16, and the instant is that of the state, log 1). An
opening of the interlock loop makes INTERLOCK_OPEN active, raises its notice, cancels an arm and stops a
shot hard at that instant; a closing clears the source and raises nothing (R21, R151; that INTERLOCK_OPEN
is raised before ARM_CANCELLED is the model's choice, log 34, that an opening of an open loop changes
nothing log 4, and that a hard stop leaves finalization to TAIL_EXPIRY also with a tail time of 0 log 18).
-/
def Obligations.SupplyAndInterlock : Prop :=
  (∀ (s : State) (sagLow : Bool) (volts : Bank Nat 10), s.power = .up →
     atOrAfter s.now s.clock.nextSupply = true →
     let t := s.clock.nextSupply
     let low := if sagLow then min (s.sup.low + 1) 50 else 0
     let present : Prop := s.seq.header.persistence ≤ low
     let onset : Prop := present ∧ s.sup.sag = false
     let level (k : InputId) : Nat := min (volts.get k) 300
     let read (u : State) : State := { u with inp := .ofFn fun k => { u.inp.get k with
       term := { (u.inp.get k).term with volts := volts.get k }
       reading := level k
       learn := (u.inp.get k).learn.map fun l =>
         if l.readings < 100 then { l with readings := l.readings + 1, sum := l.sum + level k } else l } }
     let v : State := { s with
       now := t
       clock := { s.clock with nextSupply := nextMultiple 1000 t }
       sup := { s.sup with low := low, sag := decide (s.seq.header.persistence ≤ low) } }
     let seen : State := v.write fun r => { r with flags := { r.flags with sagSeen := true } }
     (¬ onset → exec (.supplyCheck sagLow volts) s = .next (read v)) ∧
     (onset → s.seq.st.editable = true → exec (.supplyCheck sagLow volts) s = .next (read v)) ∧
     (∀ src, onset → s.seq.st = .armed → s.seq.source = some src →
       exec (.supplyCheck sagLow volts) s =
         .next (read ((v.endArm (.source .supplySag)).raise .armCancelled))) ∧
     (onset → s.seq.st.inShot = true → s.seq.header.sagMode = .warn →
       exec (.supplyCheck sagLow volts) s = .next (read seen)) ∧
     (onset → s.seq.st.inShot = true → s.seq.header.sagMode = .stop →
       exec (.supplyCheck sagLow volts) s =
         .next (read (seen.hardStop .supplySag t)))) ∧
  (∀ (s : State) (t : Time), s.power = .up →
     let u := s.advance t
     let opened : State := { u with sup := { s.sup with interlockOpen := true } }.raise .interlockOpen
     (s.sup.interlockOpen = true → exec (.interlockOpening t) s = .next u) ∧
     (s.sup.interlockOpen = false → s.seq.st.editable = true →
       exec (.interlockOpening t) s = .next opened) ∧
     (∀ src, s.sup.interlockOpen = false → s.seq.st = .armed → s.seq.source = some src →
       exec (.interlockOpening t) s =
         .next ((opened.endArm (.source .interlockOpen)).raise .armCancelled)) ∧
     (s.sup.interlockOpen = false → s.seq.st.inShot = true →
       exec (.interlockOpening t) s = .next (opened.hardStop .interlock u.now)) ∧
     exec (.interlockClosing t) s = .next { u with sup := { s.sup with interlockOpen := false } })

/-! ## The time base (08) -/

/-- PPS_PULSE by its class against L: a glitch sets its flag alone; a first or a late pulse becomes L and
makes ACQUIRING, cancelling a PPS arm that a lock had admitted; a valid pulse becomes L, locks, counts for
a PPS arm or ends an AT_PPS wait (an entry at the pulse's own tick comes before its routing when the
command says so, log 25, and no ramp step or expiry of that tick waits), and is routed in a shot. Without
pulses LOCKED passes to HOLDOVER 1,000,201 µs after L, and HOLDOVER and ACQUIRING fall to NO_SYNC
5,000,000 µs after L, which cancels a PPS arm waiting in HOLDOVER. The notice comes with a change of the
sync state, before an ARM_CANCELLED (the model's choice, log 34). That the pulse which completes the lock
from ACQUIRING is valid and ends an AT_PPS wait follows R133 and R139 against R27, the model's choice (log
38) (R29, R132 to R139). -/
def Obligations.PulsesMoveTheTimeBase : Prop :=
  (∀ (s : State) (t : Time) (first : Bool), s.power = .up →
     let u := s.advance t
     let p := u.now
     let pulse : Event := { kind := .pps, time := p, routed := p }
     let runs (v : State) : Prop := exec (.ppsPulse t first) s = .next v
     let captured (sync : Sync) (v : State) : Prop :=
       (s.tb.sync = sync → v = { u with tb := { s.tb with latest := some p, sync } }) ∧
       (s.tb.sync ≠ sync →
         v = { u with tb := { s.tb with latest := some p, sync } }.raise .syncChanged)
     let valid : Prop := ∃ l, s.tb.latest = some l ∧ 999800 ≤ elapsed l p ∧ elapsed l p ≤ 1000200
     (∀ l, s.tb.latest = some l → elapsed l p < 999800 →
       runs { u with tb := { s.tb with glitch := true } }) ∧
     (s.tb.latest = none ∨ (∃ l, s.tb.latest = some l ∧ 1000200 < elapsed l p) →
       ∀ v, captured .acquiring v →
         (s.tb.sync = .noSync ∨ s.tb.sync = .acquiring ∨ s.seq.st ≠ .armed ∨
           (∃ src, s.seq.source = some src ∧ ∀ n, src ≠ .pps n) → runs v) ∧
         (∀ n, s.tb.sync = .locked ∨ s.tb.sync = .holdover → s.seq.st = .armed →
           s.seq.source = some (.pps n) →
           runs ((v.endArm (.source .noSync)).raise .armCancelled))) ∧
     (valid → ∀ v, captured .locked v →
       (s.seq.st.editable = true → runs v) ∧
       (∀ n, s.seq.st = .armed → s.seq.source = some (.pps n) → s.seq.startDue = none →
         runs { v with seq := { s.seq with
           ppsCount := s.seq.ppsCount + 1
           startDue := if n ≤ s.seq.ppsCount + 1 then some p else none } }) ∧
       (s.seq.st = .armed → s.seq.startDue ≠ none ∨
         (∃ src, s.seq.source = some src ∧ ∀ n, src ≠ .pps n) → runs v) ∧
       (s.seq.st = .stopping ∨ s.seq.st = .tail ∨ s.seq.st = .running ∧ s.seq.pend = none →
         runs (route pulse v)) ∧
       (∀ q, s.seq.st = .running → s.seq.pend = some q →
         let waits : Prop := q.rule.mode = .atPps ∧ q.pulse = none ∧ isAfter q.request p = true ∧
           elapsed q.request p ≤ 1000200
         let ended : State := { v with seq := { s.seq with pend := some { q with pulse := some p } } }
         (¬ waits → q.pulse ≠ some p → runs (route pulse v)) ∧
         let earlier : Prop := (∃ e, s.seq.dwellDue = some e ∧ atOrAfter e p = true) ∨
           ∃ e, s.seq.durationDue = some e ∧ atOrAfter e p = true
         (waits → first = false ∨ tickAtOrAfter s.clock.anchor p ≠ p ∨ earlier →
           runs (route pulse ended)) ∧
         (waits → first = true → tickAtOrAfter s.clock.anchor p = p → ¬ earlier →
           runs (route pulse (takeEntry { q with pulse := some p } p false false ended)))))) ∧
  (∀ (s : State) (l : Time), s.power = .up → s.tb.latest = some l →
     let fallen : State := ({ s.advance (after l 5000000) with
       tb := { s.tb with latest := none, sync := .noSync } } : State).raise .syncChanged
     (s.tb.sync = .locked → exec .holdoverEntry s = .next
       (({ s.advance (after l 1000201) with tb := { s.tb with sync := .holdover } } : State).raise
         .syncChanged)) ∧
     (s.tb.sync = .acquiring → exec .syncTimeout s = .next fallen) ∧
     (s.tb.sync = .holdover → (∀ n, s.seq.st = .armed → s.seq.source ≠ some (.pps n)) →
       (s.seq.st = .armed → s.seq.source ≠ none) → exec .syncTimeout s = .next fallen) ∧
     (∀ n, s.tb.sync = .holdover → s.seq.st = .armed → s.seq.source = some (.pps n) →
       exec .syncTimeout s = .next ((fallen.endArm (.source .noSync)).raise .armCancelled)))

/-! ## Measurement timers (06) -/

/-- TIMER_TIMEOUT: a running timer whose due time has come is TIMED_OUT, its open pulse discarded, and
TIMER_TIMEOUT is routed. A start runs an IDLE timer, and is extra in the other run states; at the start of
a WIDTH or COUNT timer an active input whose last active edge lies at or after the start time counts once,
and opens a pulse at that edge in WIDTH (also when the timer times out at its own start, log 30). A stop
in INTERVAL and COUNT records a lap in the order of stop times, never negative, EARLY when it lies before
the start, and a full list makes the timer STOPPED; in the other run states it is late. An active edge of
the timer's input becomes its last active edge, opens a pulse in a running WIDTH timer without one, and
counts there and in a running COUNT timer; an inactive edge closes the open pulse of a running WIDTH timer
into a lap (at the instant of the start that opened the pulse too, the model's choice, log 40); another
timer takes no edge (R103 to R110, R112). -/
def Obligations.TimersStartStopAndTimeOut : Prop :=
  let recorded (x v : Timer) (first c : Time) : Prop :=
    ∃ l : Lap, l.stop = c ∧
      (atOrAfter first c = true → l.value = min (elapsed first c) 4000000000 ∧ l.early = false) ∧
      (atOrAfter first c = false → l.value = 0 ∧ l.early = true) ∧
      (∃ before behind, x.laps = before ++ behind ∧ v.laps = before ++ l :: behind ∧
        (∀ y ∈ before, atOrAfter y.stop c = true) ∧
        (∀ y, behind.head? = some y → atOrAfter y.stop c = false)) ∧
      (x.cfg.limit ≤ x.laps.length + 1 → v.run = .stopped ∧ v.due = none) ∧
      (x.laps.length + 1 < x.cfg.limit → v.run = .running ∧ v.due = x.due)
  (∀ (s : State) (m : TimerId) (d : Time), s.power = .up → s.seq.st.inShot = true →
    (s.tmr.get m).run = .running → (s.tmr.get m).due = some d →
    exec (.timerTimeout m) s = .next (route { kind := .timerTimeout m, time := d, routed := d }
      { s.advance d with tmr := s.tmr.set m { s.tmr.get m with
        run := .timedOut
        due := none
        pulse := none } })) ∧
  (∀ (s : State) (m : TimerId) (c e : Time), (s.tmr.get m).cfg.enabled = true →
    let x := s.tmr.get m
    let d := after c (x.cfg.timeout * 1000)
    let timesOut : Prop := x.cfg.timeout ≠ 0 ∧ atOrAfter d e = true
    let seen (k : InputId) (a : Time) : Prop :=
      (s.inp.get k).qual = (s.inp.get k).cfg.activeHigh ∧ x.lastActive = some a ∧ atOrAfter c a = true
    ∃ v : Timer, (startTimer m c e s).1 = { s with tmr := s.tmr.set m v } ∧
      (x.run ≠ .idle → (startTimer m c e s).2 = [] ∧ v = { x with extra := min (x.extra + 1) 65535 }) ∧
      (x.run = .idle →
        v = { x with run := v.run, start := some c, amps := some (s.syn.chans.map Chan.amp),
                     due := v.due, pulse := v.pulse, count := v.count } ∧
        (x.cfg.timeout = 0 → v.run = .running ∧ v.due = none ∧ (startTimer m c e s).2 = []) ∧
        (x.cfg.timeout ≠ 0 → ¬ timesOut →
          v.run = .running ∧ v.due = some d ∧ (startTimer m c e s).2 = []) ∧
        (timesOut → v.run = .timedOut ∧ v.due = none ∧ v.pulse = none ∧
          (startTimer m c e s).2 = [{ kind := .timerTimeout m, time := d, routed := e }]) ∧
        (∀ k a, x.cfg.mode = .width k → seen k a →
          v.count = min (x.count + 1) 65535 ∧ (¬ timesOut → v.pulse = some a)) ∧
        (∀ k a, x.cfg.mode = .count k → seen k a →
          v.count = min (x.count + 1) 65535 ∧ (¬ timesOut → v.pulse = x.pulse)) ∧
        ((∀ k a, x.cfg.mode.input = some k → ¬ seen k a) →
          v.count = x.count ∧ (¬ timesOut → v.pulse = x.pulse)))) ∧
  (∀ (s : State) (m : TimerId) (c e : Time),
    let x := s.tmr.get m
    ∃ v : Timer, (stopTimer m c e s).1 = { s with tmr := s.tmr.set m v } ∧
      (x.run ≠ .running → (stopTimer m c e s).2 = [] ∧ v = { x with late := min (x.late + 1) 65535 }) ∧
      (∀ k, x.run = .running → x.cfg.mode = .width k → (stopTimer m c e s).2 = [] ∧
        v = { x with run := .stopped, due := none, pulse := none }) ∧
      (∀ t0, x.run = .running → (∀ k, x.cfg.mode ≠ .width k) → x.start = some t0 →
        (stopTimer m c e s).2 = [{ kind := .timerStop m, time := c, routed := e }] ∧
        recorded x v t0 c ∧ v = { x with laps := v.laps, run := v.run, due := v.due })) ∧
  (∀ (s : State) (m : TimerId) (k : InputId) (a e : Time),
    let x := s.tmr.get m
    let taken (edge : Edge) (v : Timer) (events : List Event) : Prop :=
      timerEdge m k edge a e s = ({ s with tmr := s.tmr.set m v }, events)
    (x.cfg.enabled = false ∨ x.cfg.mode.input ≠ some k →
      ∀ edge, timerEdge m k edge a e s = (s, [])) ∧
    (x.cfg.enabled = true → x.cfg.mode.input = some k →
      (x.run = .running → x.cfg.mode = .width k → x.pulse = none →
        taken .active { x with lastActive := some a
                               pulse := some a
                               count := min (x.count + 1) 65535 } []) ∧
      (x.run = .running → x.cfg.mode = .count k →
        taken .active { x with lastActive := some a, count := min (x.count + 1) 65535 } []) ∧
      (x.run ≠ .running ∨ x.cfg.mode = .width k ∧ x.pulse ≠ none →
        taken .active { x with lastActive := some a } []) ∧
      (∀ o, x.run = .running → x.cfg.mode = .width k → x.pulse = some o →
        ∃ v, taken .inactive v [{ kind := .timerStop m, time := a, routed := e }] ∧
          recorded x v o a ∧
          v = { x with laps := v.laps, run := v.run, due := v.due, pulse := none }) ∧
      (x.run ≠ .running ∨ x.cfg.mode = .count k ∨ x.pulse = none →
        timerEdge m k .inactive a e s = (s, []))))

/-! ## Breakers (07) -/

/-- A completed open or close: the breaker takes its state, an entry joins its operation list, its
outputs follow, its group is asked to be interrupted or restored, and the event is routed (R118, R121,
R122, R125). The interruption group of a breaker is that of the table of R126. An output is owned by the
breaker that claims it, closed as the table of R124 gives for 52a and 52b; otherwise by the sequence, when
it is committed and a loaded record names the output, closed in RUNNING and STOPPING when the state in
force names it; otherwise by nobody, and open (R124, R126, R128, R129). -/
def Obligations.OperationsComplete : Prop :=
  (∀ (g : Option Group) (line : Bool) (c : Channel), inGroup g line c = true ↔
    g = some .groupI ∧ c.val ∈ [4, 5, 6] ∨ g = some .groupJ ∧ c.val ∈ [7, 8, 9] ∨
      line = true ∧ c.val ∈ [0, 1, 2]) ∧
  (∀ (s : State) (o : BoutId),
    let n := outputNow s o
    let x (b : BreakerId) := s.brk.get b
    let has52a (b : BreakerId) : Prop := (x b).cfg.enabled = true ∧ (x b).cfg.out52a = some o
    let has52b (b : BreakerId) : Prop := (x b).cfg.enabled = true ∧ (x b).cfg.out52b = some o
    let claimed : Prop := ∃ b, has52a b ∨ has52b b
    let named : Prop := s.seq.commit = true ∧
      ∃ i r, s.seq.table.get i = some r ∧ r.pattern.get o = true
    (n.owner = .breaker ↔ claimed) ∧ (n.owner = .sequence ↔ ¬ claimed ∧ named) ∧
    (n.owner = .nobody ↔ ¬ claimed ∧ ¬ named) ∧
    (∀ b, (∀ b', b' ≠ b → ¬ has52a b' ∧ ¬ has52b b') →
      (has52a b → ¬ has52b b → n.closed = match (x b).st with
        | .closed => true
        | .opening => true
        | .opened => false
        | .closing => false) ∧
      (has52b b → ¬ has52a b → n.closed = match (x b).st with
        | .closed => false
        | .opening => false
        | .opened => true
        | .closing => true)) ∧
    (¬ claimed → named → (n.closed = true ↔ (s.seq.st = .running ∨ s.seq.st = .stopping) ∧
      ∃ i, s.seq.inForce = some i ∧ (s.seq.record i).pattern.get o = true)) ∧
    (¬ claimed → ¬ named → n.closed = false)) ∧
  ∀ (s : State) (b : BreakerId) (op : Operation), s.power = .up → s.seq.st.inShot = true →
    (s.brk.get b).op = some op →
    let x := s.brk.get b
    let entry (kind : OpKind) (replaced : Option Nat) (e : OpEntry) : Prop :=
      e.kind = kind ∧ e.command = relative s.seq.t0 op.command ∧
      e.completion = relative s.seq.t0 op.due ∧ e.cause = op.cause ∧ e.refusal = .accepted ∧
      e.replaced = replaced
    let completed (st : BrkState) (change : Chan → Chan) (e : OpEntry) (v : State) : Prop :=
      v.now = laterOf s.now op.due ∧
      (x.ops.length < 16 → v.brk = s.brk.set b { x with st := st, op := none, ops := x.ops ++ [e] }) ∧
      (16 ≤ x.ops.length → v.brk = s.brk.set b { x with
        st := st
        op := none
        overflow := min (x.overflow + 1) 65535 }) ∧
      (∀ o, v.out.get o = outputNow v o) ∧
      (∀ c, v.syn.chans.get c = if inGroup x.cfg.group x.cfg.line c then change (s.syn.chans.get c)
        else s.syn.chans.get c) ∧
      (s.rep.cur = .filling → v.rep.fill.ops.get b = (v.brk.get b).ops ∧
        v.rep.fill.opsOver.get b = (v.brk.get b).overflow) ∧
      v.seq = s.seq ∧ v.inp = s.inp ∧ v.trg = s.trg ∧ v.tmr = s.tmr ∧ v.link = s.link
    (op.opens = true → ∃ e v, entry .opened (op.replaced.map (relative s.seq.t0)) e ∧
      completed .opened (Chan.interrupt op.due) e v ∧ exec (.breakerOpenComplete b) s =
        .next (route { kind := .breakerOpen b, time := op.due, routed := op.due } v)) ∧
    (op.opens = false → ∃ e v, entry .closed none e ∧
      completed .closed (Chan.restore op.due) e v ∧ exec (.breakerCloseComplete b) s =
        .next (route { kind := .breakerClosed b, time := op.due, routed := op.due } v))

/-- Trip and close commands by the breaker state: a trip from CLOSED or CLOSING begins an open, and is
refused in OPENING and OPEN; a close from OPEN begins a close unless the trip input stands active, and is
refused in the other states; an operating time of 0 completes at once. Outside a shot, and on a disabled
breaker, a command does nothing (R118, R119, R120, R125). -/
def Obligations.CommandsMoveTheBreaker : Prop :=
  ∀ (s : State) (b : BreakerId) (t : Time) (cause : CmdCause),
    let x := s.brk.get b
    let ready : Prop := s.seq.st.inShot = true ∧ x.cfg.enabled = true
    let refused (r : State × List Event) (kind : OpKind) (why : OpRefusal) : Prop := r.2 = [] ∧
      (x.ops.length < 16 → ∃ e, e.kind = kind ∧ e.command = relative s.seq.t0 t ∧
        e.completion = relative s.seq.t0 t ∧ e.cause = cause ∧ e.refusal = why ∧ e.replaced = none ∧
        r.1.brk = s.brk.set b { x with ops := x.ops ++ [e] }) ∧
      (16 ≤ x.ops.length →
        r.1.brk = s.brk.set b { x with overflow := min (x.overflow + 1) 65535 }) ∧
      r.1.syn = s.syn ∧ r.1.out = s.out
    let begun (r : State × List Event) (opens : Bool) (time : Nat) (replaced : Option Time) : Prop :=
      let op : Operation :=
        { opens := opens, command := t, cause := cause, due := after t (time * 1000),
          replaced := replaced }
      let st : BrkState := if opens then .opening else .closing
      let v : State := ({ s with brk := s.brk.set b { x with st := st, op := some op } }).refreshOutputs
      (time ≠ 0 → r = (v, [])) ∧
      (time = 0 → opens = true →
        r = (completeOpen b op v, [{ kind := .breakerOpen b, time := t, routed := t }])) ∧
      (time = 0 → opens = false →
        r = (completeClose b op v, [{ kind := .breakerClosed b, time := t, routed := t }]))
    let trip := tripBreaker b t cause s
    let close := closeBreaker b t cause s
    let stands : Prop := ∃ k, x.cfg.trip = some k ∧ (s.inp.get k).qual = (s.inp.get k).cfg.activeHigh
    (¬ ready → trip = (s, []) ∧ close = (s, [])) ∧
    (ready → x.st = .closed →
      begun trip true x.cfg.openTime none ∧ refused close .closeRefused (.state .closed)) ∧
    (ready → x.st = .closing → begun trip true x.cfg.openTime (x.op.map fun o => o.command) ∧
      refused close .closeRefused (.state .closing)) ∧
    (ready → x.st = .opening → refused trip .tripRefused (.state .opening) ∧
      refused close .closeRefused (.state .opening)) ∧
    (ready → x.st = .opened → refused trip .tripRefused (.state .opened) ∧
      (stands → refused close .closeRefused .tripFree) ∧
      (¬ stands → begun close false x.cfg.closeTime none))

/-! ## The trigger table (05) -/

/-- Routing: nothing outside a shot. In a shot the entries that match an event are examined in index order
(an entry matches when it is enabled, its event is the kind with its operand, and its filter is absent or
names the state in force for the event; for an event chained to STATE_EXIT that is the entered state, the
model's choice, log 44): each counts the match, and fires with occurrence 0 or at its
occurrence. The first firing of the event whose action is GOTO or END_SHOT is offered to the sequencer:
GOTO asks for a transition in RUNNING with none pending, END_SHOT for a soft stop in RUNNING; elsewhere,
and on every later firing of the two, it is superseded. The other actions act, a start of a timer with the
event time, a command of a breaker with the routing time, and every firing is logged. The events that
actions chain are routed after the event, in the order they were raised, all of one depth before the next;
an event of depth 5 is not routed, and sets CHAIN_LIMIT. A MARK records the routing time, the state in
force for the event, the ramp step index and the live value of the first channel of the ramp, up to 16
(R30, R87 to R97). -/
def Obligations.EventsFireTheirEntries : Prop :=
  (∀ (s : State) (e : Event), s.seq.st.inShot = false → route e s = s) ∧
  (∀ (s : State) (e : Event), s.seq.st.inShot = true → route e s = routeDepths 4 [e] s) ∧
  (∀ (n : Nat) (es : List Event) (s : State), es ≠ [] →
    let routed := es.foldl (fun (r : State × List Event) e =>
      ((routeOne e r.1).1, r.2 ++ (routeOne e r.1).2)) (s, [])
    routeDepths (n + 1) es s = routeDepths n routed.2 routed.1 ∧
    routeDepths n [] s = s ∧
    routeDepths 0 es s =
      s.write fun r => { r with flags := { r.flags with chainLimit := true } }) ∧
  (∀ (s : State) (e : Event) (matching : List TrigIdx), matching.Pairwise (· < ·) →
    let forEvent (f : StateIdx) : Prop :=
      match e.kind with
      | .stateExit j => f = j
      | .stateEnter j => f = j
      | _ => s.seq.inForce = some f
    (∀ i, i ∈ matching ↔ ∃ t, (s.trg.get i).entry = some t ∧ t.enabled = true ∧ t.event = e.kind ∧
      ∀ f, t.filter = some f → forEvent f) →
    let logged (i : TrigIdx) (superseded : Bool) (v : State) : State := v.write fun r =>
      let k : LogEntry := { entry := i, time := relative v.seq.t0 e.time, superseded := superseded }
      if r.log.length < 64 then { r with log := r.log ++ [k] }
      else { r with logOver := min (r.logOver + 1) 65535 }
    let acts (i : TrigIdx) (a : Action) (offered : Bool) (v : State) : State × Bool × List Event :=
      let other (x : State × List Event) : State × Bool × List Event :=
        (logged i false x.1, offered, x.2)
      match a with
      | .goto target =>
        if offered = false ∧ v.seq.st = .running ∧ v.seq.pend = none then
          (logged i false (v.request target (.trigger i) e.routed), true, [])
        else (logged i true v, true, [])
      | .endShot =>
        if offered = false ∧ v.seq.st = .running then
          (logged i false (v.softStop .endShot e.routed), true, [])
        else (logged i true v, true, [])
      | .startTimer m => other (startTimer m e.time e.routed v)
      | .stopTimer m => other (stopTimer m e.time e.routed v)
      | .trip b => other (tripBreaker b e.routed (.trigger i) v)
      | .close b => other (closeBreaker b e.routed (.trigger i) v)
      | .mark => other (takeMark e v, [])
    let examined (r : State × Bool × List Event) (i : TrigIdx) : State × Bool × List Event :=
      match (s.trg.get i).entry with
      | none => r
      | some t =>
        let n := min ((s.trg.get i).count + 1) 65535
        let v : State := { r.1 with trg := r.1.trg.set i { entry := some t, count := n } }
        if t.occurrence = 0 ∨ t.occurrence = n then
          let x := acts i t.action r.2.1 v
          (x.1, x.2.1, r.2.2 ++ x.2.2)
        else (v, r.2.1, r.2.2)
    let result := matching.foldl examined (s, false, [])
    routeOne e s = (result.1, result.2.2)) ∧
  (∀ (s : State) (e : Event) (i : StateIdx), s.seq.inForce = some i →
    ∃ k : Mark, takeMark e s = (s.write fun r =>
        if r.marks.length < 16 then { r with marks := r.marks ++ [k] }
        else { r with marksOver := min (r.marksOver + 1) 65535 }) ∧
      k.time = relative s.seq.t0 e.routed ∧ k.step = s.seq.rampSteps ∧
      (∀ j, e.kind = .stateExit j ∨ e.kind = .stateEnter j → k.state = j) ∧
      ((∀ j, e.kind ≠ .stateExit j ∧ e.kind ≠ .stateEnter j) → k.state = i) ∧
      ((s.seq.record i).ramp = none → k.live = none) ∧
      (∀ p c, (s.seq.record i).ramp = some p → p.chans.get c = true →
        (∀ b < c, p.chans.get b = false) →
        k.live = some (match p.quantity with
          | .amplitude => (s.syn.chans.get c).amp
          | .phase => (s.syn.chans.get c).angle
          | .frequency => (s.syn.chans.get c).freq)))

/-! ## Agreements that every step keeps -/

/-- From every state, a step keeps the link within its bounds: at most two requests, two replies and two
BUSY replies, one NOTE; no request while a reset is awaited; a calibration write holds the queue (R176,
R177, R179, R181, R186). -/
def Obligations.EveryStepKeepsTheLinkBounded : Prop :=
  ∀ s t : State, LinkBounded s → step s = .next t → LinkBounded t

/-- From every state, a step keeps the sequencer, the current slot and the shot numbers in agreement: the
commit flag, what waits and what is recorded by the sequencer state, the slot of the current shot, at most
16 slots taken, and no shot number carried twice (R2, R18, R22, R25, R36, R155). -/
def Obligations.EveryStepKeepsTheSequencerInAgreement : Prop :=
  ∀ s t : State, SequencerAgrees s.seq ∧ NumbersDistinct s → step s = .next t →
    SequencerAgrees t.seq ∧ NumbersDistinct t

/-- From every state, a step keeps the breakers in agreement with their operations and, outside a shot,
in their initial states, and every binary output at the owner and the level that the breakers, the
committed patterns and the state in force give, as OperationsComplete spells them (R114, R124, R128,
R129). -/
def Obligations.EveryStepKeepsBreakersAndOutputsInAgreement : Prop :=
  ∀ s t : State, BreakersAgree s ∧ OutputsAgree s → step s = .next t →
    BreakersAgree t ∧ OutputsAgree t

/-- From every state, a step keeps every input in agreement with its debounce window (NORMAL, a window is
open exactly while raw and qualified level differ; in CHATTER the qualified level is held), L present
exactly outside NO_SYNC, and every thermal account within its record's capacity (R71, R72, R75, R76, R132,
R142, R143, R147). -/
def Obligations.EveryStepKeepsInputsTimeBaseAndHeat : Prop :=
  (∀ s t : State, (∀ k, InputAgrees (s.inp.get k)) → step s = .next t → ∀ k, InputAgrees (t.inp.get k)) ∧
  (∀ s t : State, SyncAgrees s.tb ∧ HeatBounded s → step s = .next t → SyncAgrees t.tb ∧ HeatBounded t)

/-- From every state, a step keeps the outlets safe: code 0 outside RUNNING and STOPPING, and every code
within -32,767 to 32,767; and it keeps the lists of every report, held or being filled, and the operation
list of every breaker within their capacities (R50, R51, R125, R160). -/
def Obligations.EveryStepKeepsOutletsSafeAndListsBounded : Prop :=
  (∀ s t : State, OutletsSafe s → step s = .next t → OutletsSafe t) ∧
  (∀ s t : State, ListsBounded s → step s = .next t → ListsBounded t)

/-- State.reset, the state after power-on with the pins (log 5) and the contents of the calibration memory
(log 6) that are the model's choice, meets every agreement. -/
def Obligations.ResetMeetsTheAgreements : Prop :=
  LinkBounded State.reset ∧ SequencerAgrees State.reset.seq ∧ NumbersDistinct State.reset ∧
  BreakersAgree State.reset ∧ OutputsAgree State.reset ∧
  (∀ k, InputAgrees (State.reset.inp.get k)) ∧ SyncAgrees State.reset.tb ∧ HeatBounded State.reset ∧
  OutletsSafe State.reset ∧ ListsBounded State.reset

end
end

