-- ==== Sys2Proof/Laws/Bank.lean ====
section
/-! SUPPORT. The laws of `Bank`: what each operation reads as, and equality by members. -/

namespace Sys2Proof.Bank

variable {α β : Type} {n : Nat}

/-- Two banks with the same member at every index are equal. -/
@[ext] theorem ext_get {a b : Bank α n} (h : ∀ i, a.get i = b.get i) : a = b := by
  obtain ⟨xs, hx⟩ := a
  obtain ⟨ys, hy⟩ := b
  have : xs = ys := by
    apply List.ext_getElem (by omega)
    intro i hi _
    exact h ⟨i, by omega⟩
  subst this
  rfl

@[simp] theorem get_fill (a : α) (i : Fin n) : (fill n a).get i = a := by simp [fill, get]

@[simp] theorem get_ofFn (f : Fin n → α) (i : Fin n) : (ofFn f).get i = f i := by
  simp [ofFn, get]

@[simp] theorem get_map (f : α → β) (b : Bank α n) (i : Fin n) : (b.map f).get i = f (b.get i) := by
  simp [map, get]

@[simp] theorem get_mapIdx (f : Fin n → α → β) (b : Bank α n) (i : Fin n) :
    (b.mapIdx f).get i = f i (b.get i) := by simp [mapIdx]

theorem get_set (b : Bank α n) (i j : Fin n) (a : α) :
    (b.set i a).get j = if i = j then a else b.get j := by
  simp [set, get, List.getElem_set, Fin.ext_iff]

@[simp] theorem get_set_self (b : Bank α n) (i : Fin n) (a : α) : (b.set i a).get i = a := by
  simp [get_set]

theorem get_set_ne (b : Bank α n) {i j : Fin n} (a : α) (h : i ≠ j) :
    (b.set i a).get j = b.get j := by simp [get_set, h]

theorem get_modify (b : Bank α n) (i j : Fin n) (f : α → α) :
    (b.modify i f).get j = if i = j then f (b.get i) else b.get j := by
  simp [modify, get_set]

@[simp] theorem get_modify_self (b : Bank α n) (i : Fin n) (f : α → α) :
    (b.modify i f).get i = f (b.get i) := by simp [modify]

@[simp] theorem set_get (b : Bank α n) (i : Fin n) : b.set i (b.get i) = b := by
  ext j; by_cases h : i = j <;> simp [get_set, h]

@[simp] theorem map_id' (b : Bank α n) : b.map (fun x => x) = b := by ext; simp

/-- Every member of a bank's list stands at some index. -/
theorem mem_items {b : Bank α n} {a : α} : a ∈ b.items ↔ ∃ i, b.get i = a := by
  constructor
  · intro h
    obtain ⟨i, hi, rfl⟩ := List.mem_iff_getElem.1 h
    exact ⟨⟨i, by rw [← b.size]; exact hi⟩, rfl⟩
  · rintro ⟨i, rfl⟩
    exact List.getElem_mem _

theorem any_items {b : Bank α n} {p : α → Bool} : b.items.any p = true ↔ ∃ i, p (b.get i) = true := by
  simp only [List.any_eq_true, mem_items]
  constructor
  · rintro ⟨_, ⟨i, rfl⟩, h⟩; exact ⟨i, h⟩
  · rintro ⟨i, h⟩; exact ⟨_, ⟨i, rfl⟩, h⟩

theorem all_items {b : Bank α n} {p : α → Bool} : b.items.all p = true ↔ ∀ i, p (b.get i) = true := by
  simp only [List.all_eq_true, mem_items]
  constructor
  · intro h i; exact h _ ⟨i, rfl⟩
  · rintro h _ ⟨i, rfl⟩; exact h i

end Sys2Proof.Bank
end

