-- ==== Sys2Proof/Laws/State.lean ====
section
/-! SUPPORT. The update operations of the state, field by field: what each leaves as it was, and what it
writes. -/

namespace Sys2Proof.Machine.State

variable (s : State)

/-! ## Engine time and the queue -/

@[simp] theorem advance_power (t : Time) : (s.advance t).power = s.power := rfl
@[simp] theorem advance_freeCount (t : Time) : (s.advance t).freeCount = s.freeCount := rfl
@[simp] theorem advance_clock (t : Time) : (s.advance t).clock = s.clock := rfl
@[simp] theorem advance_seq (t : Time) : (s.advance t).seq = s.seq := rfl
@[simp] theorem advance_syn (t : Time) : (s.advance t).syn = s.syn := rfl
@[simp] theorem advance_inp (t : Time) : (s.advance t).inp = s.inp := rfl
@[simp] theorem advance_trg (t : Time) : (s.advance t).trg = s.trg := rfl
@[simp] theorem advance_tmr (t : Time) : (s.advance t).tmr = s.tmr := rfl
@[simp] theorem advance_brk (t : Time) : (s.advance t).brk = s.brk := rfl
@[simp] theorem advance_out (t : Time) : (s.advance t).out = s.out := rfl
@[simp] theorem advance_tb (t : Time) : (s.advance t).tb = s.tb := rfl
@[simp] theorem advance_sup (t : Time) : (s.advance t).sup = s.sup := rfl
@[simp] theorem advance_rep (t : Time) : (s.advance t).rep = s.rep := rfl
@[simp] theorem advance_cal (t : Time) : (s.advance t).cal = s.cal := rfl
@[simp] theorem advance_link (t : Time) : (s.advance t).link = s.link := rfl
@[simp] theorem advance_pending (t : Time) : (s.advance t).pending = s.pending := rfl

@[simp] theorem advance_now (t : Time) : (s.advance t).now = laterOf s.now t := rfl

@[simp] theorem withPending_power (l : List Instr) : (s.withPending l).power = s.power := rfl
@[simp] theorem withPending_now (l : List Instr) : (s.withPending l).now = s.now := rfl
@[simp] theorem withPending_freeCount (l : List Instr) : (s.withPending l).freeCount = s.freeCount := rfl
@[simp] theorem withPending_clock (l : List Instr) : (s.withPending l).clock = s.clock := rfl
@[simp] theorem withPending_seq (l : List Instr) : (s.withPending l).seq = s.seq := rfl
@[simp] theorem withPending_syn (l : List Instr) : (s.withPending l).syn = s.syn := rfl
@[simp] theorem withPending_inp (l : List Instr) : (s.withPending l).inp = s.inp := rfl
@[simp] theorem withPending_trg (l : List Instr) : (s.withPending l).trg = s.trg := rfl
@[simp] theorem withPending_tmr (l : List Instr) : (s.withPending l).tmr = s.tmr := rfl
@[simp] theorem withPending_brk (l : List Instr) : (s.withPending l).brk = s.brk := rfl
@[simp] theorem withPending_out (l : List Instr) : (s.withPending l).out = s.out := rfl
@[simp] theorem withPending_tb (l : List Instr) : (s.withPending l).tb = s.tb := rfl
@[simp] theorem withPending_sup (l : List Instr) : (s.withPending l).sup = s.sup := rfl
@[simp] theorem withPending_rep (l : List Instr) : (s.withPending l).rep = s.rep := rfl
@[simp] theorem withPending_cal (l : List Instr) : (s.withPending l).cal = s.cal := rfl
@[simp] theorem withPending_link (l : List Instr) : (s.withPending l).link = s.link := rfl

@[simp] theorem withPending_pending (l : List Instr) : (s.withPending l).pending = l := rfl

/-! ## The link -/

@[simp] theorem raise_power (k : Notice) : (s.raise k).power = s.power := rfl
@[simp] theorem raise_now (k : Notice) : (s.raise k).now = s.now := rfl
@[simp] theorem raise_freeCount (k : Notice) : (s.raise k).freeCount = s.freeCount := rfl
@[simp] theorem raise_clock (k : Notice) : (s.raise k).clock = s.clock := rfl
@[simp] theorem raise_seq (k : Notice) : (s.raise k).seq = s.seq := rfl
@[simp] theorem raise_syn (k : Notice) : (s.raise k).syn = s.syn := rfl
@[simp] theorem raise_inp (k : Notice) : (s.raise k).inp = s.inp := rfl
@[simp] theorem raise_trg (k : Notice) : (s.raise k).trg = s.trg := rfl
@[simp] theorem raise_tmr (k : Notice) : (s.raise k).tmr = s.tmr := rfl
@[simp] theorem raise_brk (k : Notice) : (s.raise k).brk = s.brk := rfl
@[simp] theorem raise_out (k : Notice) : (s.raise k).out = s.out := rfl
@[simp] theorem raise_tb (k : Notice) : (s.raise k).tb = s.tb := rfl
@[simp] theorem raise_sup (k : Notice) : (s.raise k).sup = s.sup := rfl
@[simp] theorem raise_rep (k : Notice) : (s.raise k).rep = s.rep := rfl
@[simp] theorem raise_cal (k : Notice) : (s.raise k).cal = s.cal := rfl
@[simp] theorem raise_pending (k : Notice) : (s.raise k).pending = s.pending := rfl

@[simp] theorem raise_link (k : Notice) : (s.raise k).link = s.link.raise k := rfl

@[simp] theorem transmit_power  : (s.transmit).power = s.power := rfl
@[simp] theorem transmit_now  : (s.transmit).now = s.now := rfl
@[simp] theorem transmit_freeCount  : (s.transmit).freeCount = s.freeCount := rfl
@[simp] theorem transmit_clock  : (s.transmit).clock = s.clock := rfl
@[simp] theorem transmit_seq  : (s.transmit).seq = s.seq := rfl
@[simp] theorem transmit_syn  : (s.transmit).syn = s.syn := rfl
@[simp] theorem transmit_inp  : (s.transmit).inp = s.inp := rfl
@[simp] theorem transmit_trg  : (s.transmit).trg = s.trg := rfl
@[simp] theorem transmit_tmr  : (s.transmit).tmr = s.tmr := rfl
@[simp] theorem transmit_brk  : (s.transmit).brk = s.brk := rfl
@[simp] theorem transmit_out  : (s.transmit).out = s.out := rfl
@[simp] theorem transmit_tb  : (s.transmit).tb = s.tb := rfl
@[simp] theorem transmit_sup  : (s.transmit).sup = s.sup := rfl
@[simp] theorem transmit_rep  : (s.transmit).rep = s.rep := rfl
@[simp] theorem transmit_cal  : (s.transmit).cal = s.cal := rfl
@[simp] theorem transmit_pending  : (s.transmit).pending = s.pending := rfl

@[simp] theorem transmit_link : s.transmit.link = s.link.transmit := rfl

@[simp] theorem replied_power (f : Frame) (b : List Byte) : (s.replied f b).power = s.power := rfl
@[simp] theorem replied_now (f : Frame) (b : List Byte) : (s.replied f b).now = s.now := rfl
@[simp] theorem replied_freeCount (f : Frame) (b : List Byte) : (s.replied f b).freeCount = s.freeCount := rfl
@[simp] theorem replied_clock (f : Frame) (b : List Byte) : (s.replied f b).clock = s.clock := rfl
@[simp] theorem replied_seq (f : Frame) (b : List Byte) : (s.replied f b).seq = s.seq := rfl
@[simp] theorem replied_syn (f : Frame) (b : List Byte) : (s.replied f b).syn = s.syn := rfl
@[simp] theorem replied_inp (f : Frame) (b : List Byte) : (s.replied f b).inp = s.inp := rfl
@[simp] theorem replied_trg (f : Frame) (b : List Byte) : (s.replied f b).trg = s.trg := rfl
@[simp] theorem replied_tmr (f : Frame) (b : List Byte) : (s.replied f b).tmr = s.tmr := rfl
@[simp] theorem replied_brk (f : Frame) (b : List Byte) : (s.replied f b).brk = s.brk := rfl
@[simp] theorem replied_out (f : Frame) (b : List Byte) : (s.replied f b).out = s.out := rfl
@[simp] theorem replied_tb (f : Frame) (b : List Byte) : (s.replied f b).tb = s.tb := rfl
@[simp] theorem replied_sup (f : Frame) (b : List Byte) : (s.replied f b).sup = s.sup := rfl
@[simp] theorem replied_rep (f : Frame) (b : List Byte) : (s.replied f b).rep = s.rep := rfl
@[simp] theorem replied_cal (f : Frame) (b : List Byte) : (s.replied f b).cal = s.cal := rfl
@[simp] theorem replied_pending (f : Frame) (b : List Byte) : (s.replied f b).pending = s.pending := rfl

@[simp] theorem replied_link (f : Frame) (b : List Byte) :
    (s.replied f b).link = s.link.join (replyFrame .reply f b) := rfl

/-! ## The report being filled -/

/-- A write changes the report in the FILLING slot and nothing else (R161). -/
theorem write_eq (f : Report → Report) :
    s.write f = { s with rep := { s.rep with fill := if s.rep.cur = .filling then f s.rep.fill else s.rep.fill } } := by
  obtain ⟨_, _, _, _, _, _, _, _, _, _, _, _, _, rep, _, _, _⟩ := s
  obtain ⟨_, cur, _, _, _⟩ := rep
  cases cur <;> rfl

@[simp] theorem write_power (f : Report → Report) : (s.write f).power = s.power := by rw [write_eq]
@[simp] theorem write_now (f : Report → Report) : (s.write f).now = s.now := by rw [write_eq]
@[simp] theorem write_freeCount (f : Report → Report) : (s.write f).freeCount = s.freeCount := by rw [write_eq]
@[simp] theorem write_clock (f : Report → Report) : (s.write f).clock = s.clock := by rw [write_eq]
@[simp] theorem write_seq (f : Report → Report) : (s.write f).seq = s.seq := by rw [write_eq]
@[simp] theorem write_syn (f : Report → Report) : (s.write f).syn = s.syn := by rw [write_eq]
@[simp] theorem write_inp (f : Report → Report) : (s.write f).inp = s.inp := by rw [write_eq]
@[simp] theorem write_trg (f : Report → Report) : (s.write f).trg = s.trg := by rw [write_eq]
@[simp] theorem write_tmr (f : Report → Report) : (s.write f).tmr = s.tmr := by rw [write_eq]
@[simp] theorem write_brk (f : Report → Report) : (s.write f).brk = s.brk := by rw [write_eq]
@[simp] theorem write_out (f : Report → Report) : (s.write f).out = s.out := by rw [write_eq]
@[simp] theorem write_tb (f : Report → Report) : (s.write f).tb = s.tb := by rw [write_eq]
@[simp] theorem write_sup (f : Report → Report) : (s.write f).sup = s.sup := by rw [write_eq]
@[simp] theorem write_cal (f : Report → Report) : (s.write f).cal = s.cal := by rw [write_eq]
@[simp] theorem write_link (f : Report → Report) : (s.write f).link = s.link := by rw [write_eq]
@[simp] theorem write_pending (f : Report → Report) : (s.write f).pending = s.pending := by rw [write_eq]

@[simp] theorem write_held (f : Report → Report) : (s.write f).rep.held = s.rep.held := by rw [write_eq]
@[simp] theorem write_cur (f : Report → Report) : (s.write f).rep.cur = s.rep.cur := by rw [write_eq]
@[simp] theorem write_curves (f : Report → Report) : (s.write f).rep.curves = s.rep.curves := by rw [write_eq]
@[simp] theorem write_grades (f : Report → Report) : (s.write f).rep.grades = s.rep.grades := by rw [write_eq]
theorem write_fill (f : Report → Report) :
    (s.write f).rep.fill = if s.rep.cur = .filling then f s.rep.fill else s.rep.fill := by
  rw [write_eq]

@[simp] theorem flag_power (f : Flags → Flags) : (s.flag f).power = s.power := write_power s _
@[simp] theorem flag_now (f : Flags → Flags) : (s.flag f).now = s.now := write_now s _
@[simp] theorem flag_freeCount (f : Flags → Flags) : (s.flag f).freeCount = s.freeCount := write_freeCount s _
@[simp] theorem flag_clock (f : Flags → Flags) : (s.flag f).clock = s.clock := write_clock s _
@[simp] theorem flag_seq (f : Flags → Flags) : (s.flag f).seq = s.seq := write_seq s _
@[simp] theorem flag_syn (f : Flags → Flags) : (s.flag f).syn = s.syn := write_syn s _
@[simp] theorem flag_inp (f : Flags → Flags) : (s.flag f).inp = s.inp := write_inp s _
@[simp] theorem flag_trg (f : Flags → Flags) : (s.flag f).trg = s.trg := write_trg s _
@[simp] theorem flag_tmr (f : Flags → Flags) : (s.flag f).tmr = s.tmr := write_tmr s _
@[simp] theorem flag_brk (f : Flags → Flags) : (s.flag f).brk = s.brk := write_brk s _
@[simp] theorem flag_out (f : Flags → Flags) : (s.flag f).out = s.out := write_out s _
@[simp] theorem flag_tb (f : Flags → Flags) : (s.flag f).tb = s.tb := write_tb s _
@[simp] theorem flag_sup (f : Flags → Flags) : (s.flag f).sup = s.sup := write_sup s _
@[simp] theorem flag_cal (f : Flags → Flags) : (s.flag f).cal = s.cal := write_cal s _
@[simp] theorem flag_link (f : Flags → Flags) : (s.flag f).link = s.link := write_link s _
@[simp] theorem flag_pending (f : Flags → Flags) : (s.flag f).pending = s.pending := write_pending s _

@[simp] theorem flag_held (f : Flags → Flags) : (s.flag f).rep.held = s.rep.held := write_held s _
@[simp] theorem flag_cur (f : Flags → Flags) : (s.flag f).rep.cur = s.rep.cur := write_cur s _
@[simp] theorem flag_curves (f : Flags → Flags) : (s.flag f).rep.curves = s.rep.curves := write_curves s _
@[simp] theorem flag_grades (f : Flags → Flags) : (s.flag f).rep.grades = s.rep.grades := write_grades s _

/-! ## Outputs and outlets -/

@[simp] theorem refreshOutputs_power  : (s.refreshOutputs).power = s.power := rfl
@[simp] theorem refreshOutputs_now  : (s.refreshOutputs).now = s.now := rfl
@[simp] theorem refreshOutputs_freeCount  : (s.refreshOutputs).freeCount = s.freeCount := rfl
@[simp] theorem refreshOutputs_clock  : (s.refreshOutputs).clock = s.clock := rfl
@[simp] theorem refreshOutputs_seq  : (s.refreshOutputs).seq = s.seq := rfl
@[simp] theorem refreshOutputs_syn  : (s.refreshOutputs).syn = s.syn := rfl
@[simp] theorem refreshOutputs_inp  : (s.refreshOutputs).inp = s.inp := rfl
@[simp] theorem refreshOutputs_trg  : (s.refreshOutputs).trg = s.trg := rfl
@[simp] theorem refreshOutputs_tmr  : (s.refreshOutputs).tmr = s.tmr := rfl
@[simp] theorem refreshOutputs_brk  : (s.refreshOutputs).brk = s.brk := rfl
@[simp] theorem refreshOutputs_tb  : (s.refreshOutputs).tb = s.tb := rfl
@[simp] theorem refreshOutputs_sup  : (s.refreshOutputs).sup = s.sup := rfl
@[simp] theorem refreshOutputs_rep  : (s.refreshOutputs).rep = s.rep := rfl
@[simp] theorem refreshOutputs_cal  : (s.refreshOutputs).cal = s.cal := rfl
@[simp] theorem refreshOutputs_link  : (s.refreshOutputs).link = s.link := rfl
@[simp] theorem refreshOutputs_pending  : (s.refreshOutputs).pending = s.pending := rfl

@[simp] theorem refreshOutputs_out (o : BoutId) : s.refreshOutputs.out.get o = outputNow s o := by
  simp [refreshOutputs]

@[simp] theorem mute_power  : (s.mute).power = s.power := rfl
@[simp] theorem mute_now  : (s.mute).now = s.now := rfl
@[simp] theorem mute_freeCount  : (s.mute).freeCount = s.freeCount := rfl
@[simp] theorem mute_clock  : (s.mute).clock = s.clock := rfl
@[simp] theorem mute_seq  : (s.mute).seq = s.seq := rfl
@[simp] theorem mute_inp  : (s.mute).inp = s.inp := rfl
@[simp] theorem mute_trg  : (s.mute).trg = s.trg := rfl
@[simp] theorem mute_tmr  : (s.mute).tmr = s.tmr := rfl
@[simp] theorem mute_brk  : (s.mute).brk = s.brk := rfl
@[simp] theorem mute_out  : (s.mute).out = s.out := rfl
@[simp] theorem mute_tb  : (s.mute).tb = s.tb := rfl
@[simp] theorem mute_sup  : (s.mute).sup = s.sup := rfl
@[simp] theorem mute_rep  : (s.mute).rep = s.rep := rfl
@[simp] theorem mute_cal  : (s.mute).cal = s.cal := rfl
@[simp] theorem mute_link  : (s.mute).link = s.link := rfl
@[simp] theorem mute_pending  : (s.mute).pending = s.pending := rfl

@[simp] theorem mute_syn : s.mute.syn = s.syn.mute := rfl

end Sys2Proof.Machine.State
end

