-- ==== Sys2Proof/Laws/Routing.lean ====
section
/-! SUPPORT. What routing can do (05): a property that every action of the trigger table keeps is kept by
the routing of an event with its whole chain, and by the work of one instant. -/

namespace Sys2Proof.Machine

/-- A property of states that every action of the trigger table keeps, with what each action finds. -/
structure KeptByActions (P : State → Prop) : Prop where
  goto : ∀ s target i t, P s → s.seq.st = .running → s.seq.pend = none →
    P (s.request target (.trigger i) t)
  endShot : ∀ s t, P s → s.seq.st = .running → P (s.softStop .endShot t)
  startTimer : ∀ s m carried routed, P s → P (startTimer m carried routed s).1
  stopTimer : ∀ s m carried routed, P s → P (stopTimer m carried routed s).1
  trip : ∀ s b t cause, P s → P (tripBreaker b t cause s).1
  close : ∀ s b t cause, P s → P (closeBreaker b t cause s).1
  mark : ∀ s e, P s → P (takeMark e s)
  log : ∀ s i e superseded, P s → P (logFiring i e superseded s)
  chainLimit : ∀ s, P s → P (s.flag fun f => { f with chainLimit := true })
  count : ∀ s i (slot : TrigSlot), P s → P { s with trg := s.trg.set i slot }

namespace KeptByActions

variable {P : State → Prop} (k : KeptByActions P)

include k

theorem fireGoto {s : State} (h : P s) (i : TrigIdx) (target : StateIdx) (e : Event) (offered : Bool) :
    P (fireGoto i target e offered s).state := by
  unfold Machine.fireGoto
  split
  · exact h
  · split
    · rename_i hs hp; exact k.goto _ _ _ _ h hs hp
    · exact h

theorem fireEndShot {s : State} (h : P s) (e : Event) (offered : Bool) :
    P (fireEndShot e offered s).state := by
  unfold Machine.fireEndShot
  split
  · exact h
  · split
    · rename_i hs; exact k.endShot _ _ h hs
    · exact h

theorem fireAction {s : State} (h : P s) (i : TrigIdx) (a : Action) (e : Event) (offered : Bool) :
    P (fireAction i a e offered s).state := by
  cases a with
  | goto t => exact k.fireGoto h i t e offered
  | endShot => exact k.fireEndShot h e offered
  | startTimer m => exact k.startTimer _ _ _ _ h
  | stopTimer m => exact k.stopTimer _ _ _ _ h
  | trip b => exact k.trip _ _ _ _ h
  | close b => exact k.close _ _ _ _ h
  | mark => exact k.mark _ _ h

theorem examine (e : Event) (r : Routing) (i : TrigIdx) (h : P r.state) : P (examine e r i).state := by
  unfold Machine.examine
  dsimp only
  split
  · exact h
  · split
    · split
      · exact k.log _ _ _ _ (k.fireAction (k.count _ _ _ h) _ _ _ _)
      · exact k.count _ _ _ h
    · exact h

theorem examineAll (e : Event) (l : List TrigIdx) (r : Routing) (h : P r.state) :
    P (l.foldl (Machine.examine e) r).state := by
  induction l generalizing r with
  | nil => exact h
  | cons i l ih => exact ih _ (k.examine e r i h)

theorem routeOne (e : Event) {s : State} (h : P s) : P (routeOne e s).1 := by
  unfold Machine.routeOne
  generalize List.finRange 32 = l
  exact k.examineAll e l { state := s, offered := false, chained := [] } h

theorem routeLevel (es : List Event) {s : State} (h : P s) : P (routeLevel es s).1 := by
  induction es generalizing s with
  | nil => exact h
  | cons e es ih =>
    have h1 := k.routeOne e h
    unfold Machine.routeLevel
    generalize Machine.routeOne e s = r at h1 ⊢
    exact ih h1

theorem routeDepths (left : Nat) (es : List Event) {s : State} (h : P s) :
    P (routeDepths left es s) := by
  induction left generalizing es s with
  | zero =>
    cases es with
    | nil => exact h
    | cons e es => exact k.chainLimit _ h
  | succ left ih =>
    cases es with
    | nil => exact h
    | cons e es =>
      have h1 := k.routeLevel (e :: es) h
      unfold Machine.routeDepths
      generalize Machine.routeLevel (e :: es) s = r at h1 ⊢
      exact ih r.2 h1

/-- A property that every action keeps is kept by the routing of an event (R87, R96, R97). -/
theorem route (e : Event) {s : State} (h : P s) : P (route e s) := by
  unfold Machine.route
  split
  · exact k.routeDepths _ _ h
  · exact h

end KeptByActions

/-- A property of states that the work of one instant keeps: the actions of the trigger table, the edges
of the timers, and the passage of an input out of CHATTER. -/
structure KeptByWork (P : State → Prop) : Prop extends KeptByActions P where
  edge : ∀ s m k edge time routed, P s → P (timerEdge m k edge time routed s).1
  exit : ∀ s k t, P s → P (leaveChatter k t s).1

namespace KeptByWork

variable {P : State → Prop} (k : KeptByWork P)

include k

theorem act (w : Work) {s : State} (h : P s) : P (w.act s).1 := by
  cases w with
  | route e => exact k.toKeptByActions.route e h
  | timer m j edge time routed => exact k.edge _ _ _ _ _ _ h
  | trip b j t => exact k.trip _ _ _ _ h
  | close b j t => exact k.close _ _ _ _ h
  | exit j t => exact k.exit _ _ _ h

end KeptByWork

/-- A property that every piece of work keeps is kept by the work of one instant, whatever its order. -/
theorem runWork_keeps {ω : Type} {P : State → Prop} {act : ω → State → State × List ω}
    (hact : ∀ w s, P s → P (act w s).1) (fuel : Nat) (sched : List Nat) (ws : List ω) {s : State}
    (h : P s) : P (runWork act fuel sched ws s) := by
  induction fuel generalizing sched ws s with
  | zero => exact h
  | succ fuel ih =>
    cases ws with
    | nil => exact h
    | cons w ws => exact ih _ _ (hact _ _ h)

theorem KeptByWork.runWorks {P : State → Prop} (k : KeptByWork P) (sched : List Nat) (ws : List Work)
    {s : State} (h : P s) : P (runWorks sched ws s) :=
  runWork_keeps (fun w _ h => k.act w h) _ _ _ h

end Sys2Proof.Machine
end

