-- ==== Sys2Proof/Laws/Frames.lean ====
section
/-! SUPPORT. What the work of a shot leaves alone: routing, its actions and the work of one instant change
the sequencer, the synthesizer, the triggers, timers, breakers and outputs and the report being filled, and
no other block. -/

namespace Sys2Proof.Machine

/-- `t` agrees with `s` in every block that routing does not write. -/
structure SameOutside (s t : State) : Prop where
  power : t.power = s.power
  now : t.now = s.now
  freeCount : t.freeCount = s.freeCount
  clock : t.clock = s.clock
  inp : t.inp = s.inp
  tb : t.tb = s.tb
  sup : t.sup = s.sup
  cal : t.cal = s.cal
  link : t.link = s.link
  pending : t.pending = s.pending
  held : t.rep.held = s.rep.held
  cur : t.rep.cur = s.rep.cur
  curves : t.rep.curves = s.rep.curves
  grades : t.rep.grades = s.rep.grades
  table : t.seq.table = s.seq.table
  header : t.seq.header = s.seq.header
  commit : t.seq.commit = s.seq.commit
  shotNo : t.seq.shotNo = s.seq.shotNo
  t0 : t.seq.t0 = s.seq.t0
  inForce : t.seq.inForce = s.seq.inForce
  rampSteps : t.seq.rampSteps = s.seq.rampSteps
  cancel : t.seq.cancel = s.seq.cancel
  map : t.syn.map = s.syn.map
  dac : t.syn.dac = s.syn.dac
  amps : t.syn.amps = s.syn.amps
  peaks : t.syn.peaks = s.syn.peaks
  clamped : t.syn.clamped = s.syn.clamped

namespace SameOutside

theorem refl (s : State) : SameOutside s s := by constructor <;> rfl

theorem trans {s t u : State} (h : SameOutside s t) (g : SameOutside t u) : SameOutside s u := by
  constructor
  all_goals first
    | exact g.power.trans h.power | exact g.now.trans h.now | exact g.freeCount.trans h.freeCount
    | exact g.clock.trans h.clock | exact g.inp.trans h.inp | exact g.tb.trans h.tb
    | exact g.sup.trans h.sup | exact g.cal.trans h.cal | exact g.link.trans h.link
    | exact g.pending.trans h.pending | exact g.held.trans h.held | exact g.cur.trans h.cur
    | exact g.curves.trans h.curves | exact g.grades.trans h.grades | exact g.table.trans h.table
    | exact g.header.trans h.header | exact g.commit.trans h.commit | exact g.shotNo.trans h.shotNo
    | exact g.t0.trans h.t0 | exact g.inForce.trans h.inForce | exact g.rampSteps.trans h.rampSteps
    | exact g.cancel.trans h.cancel | exact g.map.trans h.map | exact g.dac.trans h.dac
    | exact g.amps.trans h.amps | exact g.peaks.trans h.peaks | exact g.clamped.trans h.clamped

variable (s : State)

theorem write (f : Report → Report) : SameOutside s (s.write f) := by constructor <;> simp

theorem flag (f : Flags → Flags) : SameOutside s (s.flag f) := write s _

theorem refreshOutputs : SameOutside s s.refreshOutputs := by constructor <;> rfl

theorem request (target : StateIdx) (c : Cause) (t : Time) : SameOutside s (s.request target c t) := by
  constructor <;> rfl

theorem softStop (r : EndReason) (t : Time) : SameOutside s (s.softStop r t) := by
  constructor <;> simp [State.softStop, State.recordEnd, Sequencer.halt, Synth.stopRequest]

theorem addFurther (c : HardCause) : SameOutside s (s.addFurther c) := by
  unfold State.addFurther
  split
  · exact refl s
  · exact (by constructor <;> rfl : SameOutside s _).trans (write _ _)

theorem startTimer (m : TimerId) (carried routed : Time) :
    SameOutside s (startTimer m carried routed s).1 := by
  unfold Machine.startTimer
  dsimp only
  repeat' split
  all_goals (constructor <;> rfl)

theorem stopTimer (m : TimerId) (carried routed : Time) :
    SameOutside s (stopTimer m carried routed s).1 := by
  unfold Machine.stopTimer
  dsimp only
  repeat' split
  all_goals (constructor <;> rfl)

theorem timerEdge (m : TimerId) (k : InputId) (edge : Edge) (e routed : Time) :
    SameOutside s (timerEdge m k edge e routed s).1 := by
  unfold Machine.timerEdge
  dsimp only
  repeat' split
  all_goals (constructor <;> rfl)

theorem appendOp (b : BreakerId) (e : OpEntry) : SameOutside s (appendOp b e s) := by
  unfold Machine.appendOp
  exact (by constructor <;> rfl : SameOutside s _).trans (write _ _)

theorem onGroup (b : BreakerId) (f : Chan → Chan) : SameOutside s (onGroup b f s) := by
  constructor <;> rfl

theorem setBreaker (b : BreakerId) (st : BrkState) (op : Option Operation) :
    SameOutside s (setBreaker b st op s) := by constructor <;> rfl

theorem completeOpen (b : BreakerId) (op : Operation) : SameOutside s (completeOpen b op s) := by
  unfold Machine.completeOpen
  exact (setBreaker s b _ _).trans ((appendOp _ b _).trans ((refreshOutputs _).trans (onGroup _ b _)))

theorem completeClose (b : BreakerId) (op : Operation) : SameOutside s (completeClose b op s) := by
  unfold Machine.completeClose
  exact (setBreaker s b _ _).trans ((appendOp _ b _).trans ((refreshOutputs _).trans (onGroup _ b _)))

theorem beginOpen (b : BreakerId) (t : Time) (c : CmdCause) (r : Option Time) :
    SameOutside s (beginOpen b t c r s).1 := by
  unfold Machine.beginOpen
  dsimp only
  have h := (setBreaker s b .opening (some
    { opens := true, command := t, cause := c, due := after t ((s.brk.get b).cfg.openTime * 1000),
      replaced := r })).trans (refreshOutputs _)
  split
  · exact h.trans (completeOpen _ b _)
  · exact h

theorem beginClose (b : BreakerId) (t : Time) (c : CmdCause) : SameOutside s (beginClose b t c s).1 := by
  unfold Machine.beginClose
  dsimp only
  have h := (setBreaker s b .closing (some
    { opens := false, command := t, cause := c, due := after t ((s.brk.get b).cfg.closeTime * 1000),
      replaced := none })).trans (refreshOutputs _)
  split
  · exact h.trans (completeClose _ b _)
  · exact h

theorem tripBreaker (b : BreakerId) (t : Time) (c : CmdCause) :
    SameOutside s (tripBreaker b t c s).1 := by
  unfold Machine.tripBreaker
  dsimp only
  split
  · exact refl s
  · split
    · exact beginOpen s b t c _
    · exact beginOpen s b t c _
    · exact appendOp s b _
    · exact appendOp s b _

theorem closeBreaker (b : BreakerId) (t : Time) (c : CmdCause) :
    SameOutside s (closeBreaker b t c s).1 := by
  unfold Machine.closeBreaker
  dsimp only
  split
  · exact refl s
  · split
    · split
      · exact appendOp s b _
      · exact beginClose s b t c
    · exact appendOp s b _
    · exact appendOp s b _
    · exact appendOp s b _

theorem takeMark (e : Event) : SameOutside s (takeMark e s) := by
  unfold Machine.takeMark; exact write s _

theorem logFiring (i : TrigIdx) (e : Event) (b : Bool) : SameOutside s (logFiring i e b s) := by
  unfold Machine.logFiring; exact write s _

/-- Every action leaves the other blocks alone. -/
theorem keptByActions (s : State) : KeptByActions (SameOutside s) where
  goto t _ _ _ h _ _ := h.trans (request t _ _ _)
  endShot t _ h _ := h.trans (softStop t _ _)
  startTimer t m c r h := h.trans (startTimer t m c r)
  stopTimer t m c r h := h.trans (stopTimer t m c r)
  trip t b u c h := h.trans (tripBreaker t b u c)
  close t b u c h := h.trans (closeBreaker t b u c)
  mark t e h := h.trans (takeMark t e)
  log t i e b h := h.trans (logFiring t i e b)
  chainLimit t h := h.trans (flag t _)
  count t _ _ h := h.trans (by constructor <;> rfl)

/-- The routing of an event with its whole chain leaves the other blocks alone (R91 to R97). -/
theorem route (s : State) (e : Event) : SameOutside s (route e s) := (keptByActions s).route e (refl s)

end SameOutside

/-! ## Stops, arms and finalization -/

/-- `t` agrees with `s` in the blocks that no work of the sequencer writes. -/
structure SameAround (s t : State) : Prop where
  power : t.power = s.power
  now : t.now = s.now
  freeCount : t.freeCount = s.freeCount
  clock : t.clock = s.clock
  inp : t.inp = s.inp
  tb : t.tb = s.tb
  sup : t.sup = s.sup
  cal : t.cal = s.cal
  pending : t.pending = s.pending

theorem SameOutside.around {s t : State} (h : SameOutside s t) : SameAround s t :=
  ⟨h.power, h.now, h.freeCount, h.clock, h.inp, h.tb, h.sup, h.cal, h.pending⟩

namespace SameAround

theorem refl (s : State) : SameAround s s := by constructor <;> rfl

theorem trans {s t u : State} (h : SameAround s t) (g : SameAround t u) : SameAround s u :=
  ⟨g.power.trans h.power, g.now.trans h.now, g.freeCount.trans h.freeCount, g.clock.trans h.clock,
    g.inp.trans h.inp, g.tb.trans h.tb, g.sup.trans h.sup, g.cal.trans h.cal,
    g.pending.trans h.pending⟩

variable (s : State)

theorem raise (k : Notice) : SameAround s (s.raise k) := by constructor <;> rfl

theorem write (f : Report → Report) : SameAround s (s.write f) := (SameOutside.write s f).around

theorem route (e : Event) : SameAround s (route e s) := (SameOutside.route s e).around

theorem softStop (r : EndReason) (t : Time) : SameAround s (s.softStop r t) :=
  (SameOutside.softStop s r t).around

theorem recordEnd (r : EndReason) (t : Time) : SameAround s (s.recordEnd r t) := by
  unfold State.recordEnd
  exact (by constructor <;> rfl : SameAround s _).trans (write _ _)

theorem addFurther (c : HardCause) : SameAround s (s.addFurther c) := (SameOutside.addFurther s c).around

theorem enterTail (t : Time) : SameAround s (s.enterTail t) := by constructor <;> rfl

theorem mute : SameAround s s.mute := by constructor <;> rfl

theorem hardStop (c : HardCause) (t : Time) : SameAround s (s.hardStop c t) := by
  unfold State.hardStop
  dsimp only
  split
  · exact (recordEnd s _ _).trans ((mute _).trans
      ((by constructor <;> rfl : SameAround _ _).trans (enterTail _ _)))
  · exact (addFurther s c).trans ((mute _).trans (enterTail _ _))
  · exact addFurther s c
  · exact refl s
  · exact refl s
  · exact refl s

theorem endArm (why : CancelReason) : SameAround s (s.endArm why) := by constructor <;> rfl

theorem rejectRises (r : RejectSource) : SameAround s (s.rejectRises r) := by
  unfold State.rejectRises
  repeat' split
  · exact (endArm s _).trans (raise _ _)
  · exact refl s
  · exact refl s

theorem closeTimers : SameAround s (closeTimers s) := by
  unfold Machine.closeTimers
  exact (by constructor <;> rfl : SameAround s _).trans (write _ _)

theorem writeGrades : SameAround s (writeGrades s) := write s _

theorem holdReport (t : Time) : SameAround s (holdReport t s) := by
  unfold Machine.holdReport
  exact (write s _).trans ((by constructor <;> rfl : SameAround _ _).trans (raise _ _))

theorem leaveTail : SameAround s (leaveTail s) := by constructor <;> rfl

/-- Finalization leaves the blocks around the shot alone (R37). -/
theorem finalize (t : Time) : SameAround s (finalize t s) :=
  (closeTimers s).trans ((writeGrades _).trans ((holdReport _ t).trans (leaveTail _)))

theorem enterState (i : StateIdx) (reset : Bool) (c : Cause) (a p : Bool) (tick : Time) :
    SameAround s (enterState i reset c a p tick s) := by
  unfold Machine.enterState writeTrail
  exact (by constructor <;> rfl : SameAround s _).trans (write _ _)

theorem takeEntry (p : Pending) (tick : Time) (a m : Bool) :
    SameAround s (takeEntry p tick a m s) := by
  unfold Machine.takeEntry
  exact (enterState s _ _ _ _ _ _).trans ((route _ _).trans (route _ _))

theorem expire (d : Time) : SameAround s (expire d s) := by
  have h : SameAround s { s with seq := { s.seq with durationDue := none } } := by constructor <;> rfl
  unfold Machine.expire
  dsimp only
  split
  · unfold markSuperseded
    exact h.trans (write _ _)
  · split
    · exact h.trans (SameOutside.request _ _ _ _).around
    · exact h.trans (softStop _ _ _)

theorem rampStepAt (p : Ramp) (d : Time) : SameAround s (rampStepAt p d s) := by
  have h : SameAround s (stepChannels p s) := by
    unfold stepChannels State.flag
    exact (by constructor <;> rfl : SameAround s _).trans (write _ _)
  unfold Machine.rampStepAt
  dsimp only
  split
  · exact h.trans ((by constructor <;> rfl : SameAround _ _).trans ((route _ _).trans (route _ _)))
  · exact h.trans ((by constructor <;> rfl : SameAround _ _).trans (route _ _))

theorem cutAt (tick : Time) : SameAround s (cutAt tick s) := by
  unfold Machine.cutAt State.flag
  exact (by constructor <;> rfl : SameAround s _).trans
    ((write _ _).trans (enterTail _ _))

end SameAround

end Sys2Proof.Machine
end

