-- ==== Sys2Proof/Laws/Commands.lean ====
section
/-! SUPPORT. What a step can do, said once: a property that the messages, the resets and the events keep,
and that does not look at engine time, the free counter, the link or the queue, is kept by every command
and every step. -/

namespace Sys2Proof.Machine

/-- A property of states that what the link, the clock and the queue hold does not decide. -/
structure LinkBlind (P : State → Prop) : Prop where
  now : ∀ s t, P s → P { s with now := t }
  link : ∀ s l, P s → P { s with link := l }
  write : ∀ s (w : CalWrite), P s → P { s with cal := { s.cal with write := some w } }

/-- A property that every message keeps, by the message. -/
structure KeptByMessages (P : State → Prop) : Prop where
  loadState : ∀ b s, P s → P (loadState b s).1
  clearSequence : ∀ s, P s → P (clearSequence s).1
  commitSequence : ∀ b s, P s → P (commitSequence b s).1
  loadTrigger : ∀ b s, P s → P (loadTrigger b s).1
  configureTimer : ∀ b s, P s → P (configureTimer b s).1
  configureBreaker : ∀ b s, P s → P (configureBreaker b s).1
  loadCurve : ∀ b s, P s → P (loadCurve b s).1
  loadGrade : ∀ b s, P s → P (loadGrade b s).1
  setMap : ∀ b s, P s → P (setMap b s).1
  configureInput : ∀ b s, P s → P (configureInput b s).1
  learnThreshold : ∀ b s, P s → P (learnThreshold b s).1
  armShot : ∀ b s, P s → P (armShot b s).1
  disarm : ∀ s, P s → P (disarm s).1
  stopShot : ∀ s, P s → P (stopShot s).1
  abortShot : ∀ s, P s → P (abortShot s).1
  readReport : ∀ b s, P s → P (readReport b s).1
  releaseReport : ∀ b s, P s → P (releaseReport b s).1
  getStatus : ∀ s, P s → P (getStatus s).1

/-- A property that every event and every reset keeps, by the event. -/
structure KeptByEvents (P : State → Prop) : Prop where
  start : ∀ pins s, P s → P (State.start pins s)
  hold : ∀ s, P s → P s.hold
  lose : ∀ s, P s → P s.lose
  engineReset : ∀ s, P s → P s.engineReset
  writeDone : ∀ s w, P s →
    P { s with cal := s.cal.finish w, sup := { s.sup with thermal := limitHeat w s.sup.thermal } }
  sampleTick : ∀ s, P s → P (sampleTick s)
  shotStart : ∀ s, P s → P (shotStart s)
  durationExpiry : ∀ s, P s → P (durationExpiry s)
  rampStep : ∀ s, P s → P (rampStep s)
  transitionEntry : ∀ s, P s → P (transitionEntry s)
  lengthLimit : ∀ s, P s → P (lengthLimit s)
  forcedCut : ∀ s, P s → P (forcedCut s)
  tailExpiry : ∀ s, P s → P (tailExpiry s)
  terminalChange : ∀ k term s, P s → P (terminalChange k term s)
  debounceEnd : ∀ k sched s, P s → P (debounceEnd k sched s)
  chatterBoundary : ∀ sched s, P s → P (chatterBoundary sched s)
  supplyCheck : ∀ low volts s, P s → P (supplyCheck low volts s)
  learningEnd : ∀ k s, P s → P (learningEnd k s)
  supervise : ∀ sched s, P s → P (supervise sched s)
  interlockOpens : ∀ t s, P s → P (interlockOpens t s)
  interlockCloses : ∀ s, P s → P (interlockCloses s)
  ppsPulse : ∀ t first s, P s → P (ppsPulse t first s)
  holdoverEntry : ∀ s, P s → P (holdoverEntry s)
  syncTimeout : ∀ s, P s → P (syncTimeout s)
  settleEnd : ∀ s, P s → P (settleEnd s)
  timerTimeout : ∀ m s, P s → P (timerTimeout m s)
  openComplete : ∀ b s, P s → P (openComplete b s)
  closeComplete : ∀ b s, P s → P (closeComplete b s)

/-- A property that every command keeps. -/
structure KeptByCommands (P : State → Prop) : Prop extends
  LinkBlind P, KeptByMessages P, KeptByEvents P

namespace KeptByCommands

variable {P : State → Prop} (k : KeptByCommands P)

include k

theorem raise {s : State} (h : P s) (n : Notice) : P (s.raise n) := k.link _ _ h

theorem advance {s : State} (h : P s) (t : Time) : P (s.advance t) := k.now _ _ h

theorem writeCalibration (b : List Byte) {s : State} (h : P s) : P (writeCalibration b s).1 := by
  unfold Machine.writeCalibration
  split
  · exact k.write _ _ h
  · exact h

theorem setNoticeMask (b : List Byte) {s : State} (h : P s) : P (setNoticeMask b s).1 := by
  unfold Machine.setNoticeMask
  split
  · exact k.link _ _ h
  · exact h

theorem acknowledgeNotices (b : List Byte) {s : State} (h : P s) : P (acknowledgeNotices b s).1 := by
  unfold Machine.acknowledgeNotices
  split
  · exact k.link _ _ h
  · exact h

omit k in
theorem readCalibration (b : List Byte) {s : State} (h : P s) : P (readCalibration b s).1 := by
  unfold Machine.readCalibration
  split <;> exact h

omit k in
theorem getInput (b : List Byte) {s : State} (h : P s) : P (getInput b s).1 := by
  unfold Machine.getInput
  split <;> exact h

theorem message (kind : Byte) (b : List Byte) {s : State} (h : P s) : P (message kind b s).1 := by
  unfold Machine.message
  split
  case h_1 => exact h
  case h_2 => exact k.getStatus _ h
  case h_3 => exact h
  case h_4 => exact k.setNoticeMask _ h
  case h_5 => exact k.acknowledgeNotices _ h
  case h_6 => exact readCalibration _ h
  case h_7 => exact k.writeCalibration _ h
  case h_8 => exact k.loadState _ _ h
  case h_9 => exact k.clearSequence _ h
  case h_10 => exact k.commitSequence _ _ h
  case h_11 => exact k.loadTrigger _ _ h
  case h_12 => exact k.configureTimer _ _ h
  case h_13 => exact k.configureBreaker _ _ h
  case h_14 => exact k.loadCurve _ _ h
  case h_15 => exact k.loadGrade _ _ h
  case h_16 => exact k.setMap _ _ h
  case h_17 => exact k.configureInput _ _ h
  case h_18 => exact k.learnThreshold _ _ h
  case h_19 => exact getInput _ h
  case h_20 => exact k.armShot _ _ h
  case h_21 => exact k.disarm _ h
  case h_22 => exact k.stopShot _ h
  case h_23 => exact k.abortShot _ h
  case h_24 => exact h
  case h_25 => exact k.readReport _ _ h
  case h_26 => exact k.releaseReport _ _ h
  case h_27 => exact h

theorem respond (f : Frame) {s : State} (h : P s) : P (respond f s).1 := by
  unfold Machine.respond
  split
  · exact h
  · split
    · exact h
    · exact k.message _ _ h

theorem execute (f : Frame) {s : State} (h : P s) : P (execute f s) := by
  have hr := k.respond f h
  unfold Machine.execute
  split
  · rename_i heq; rw [heq] at hr; exact k.link _ _ hr
  · rename_i heq; rw [heq] at hr; exact k.link _ _ (k.link _ _ hr)
  · rename_i heq; rw [heq] at hr; exact hr

theorem serve (fuel : Nat) {s : State} (h : P s) : P (serve fuel s) := by
  induction fuel generalizing s with
  | zero => exact h
  | succ fuel ih =>
    unfold Machine.serve
    split
    · exact h
    · split
      · exact ih (k.execute _ h)
      · exact h

theorem submit (f : Frame) {s : State} (h : P s) : P (submit f s) := by
  unfold Machine.submit
  split
  · exact h
  · split
    · exact k.serve _ (k.link _ _ h)
    · unfold refuseBusy
      split
      · exact k.link _ _ h
      · exact k.link _ _ h

theorem abandon {s : State} (h : P s) : P (abandon s) := k.link _ _ (k.link _ _ h)

theorem completeFrame (ch : Byte) {s : State} (h : P s) : P (completeFrame ch s) := by
  unfold Machine.completeFrame
  dsimp only
  split
  · exact k.submit _ (k.link _ _ h)
  · exact k.link _ _ (k.link _ _ h)

theorem takeCharacter (t : Time) (ch : Byte) {s : State} (h : P s) : P (takeCharacter t ch s) := by
  unfold Machine.takeCharacter
  dsimp only
  split
  · exact k.link _ _ h
  · split
    · exact k.abandon h
    · exact k.link _ _ h
  · exact k.link _ _ h
  · exact k.link _ _ h
  · exact k.link _ _ h
  · exact k.link _ _ h
  · exact k.completeFrame _ h

theorem receive (t : Time) (ch : Byte) (stopBit : Bool) {s : State} (h : P s) :
    P (receive t ch stopBit s) := by
  have h' : P (if s.link.rx.late t then Machine.abandon s else s) := by
    split
    · exact k.abandon h
    · exact h
  unfold Machine.receive
  dsimp only
  generalize (if s.link.rx.late t then Machine.abandon s else s) = u at h' ⊢
  split
  · exact k.takeCharacter _ _ h'
  · split
    · exact h'
    · exact k.abandon h'

theorem writeComplete {s : State} (h : P s) : P (writeComplete s) := by
  unfold Machine.writeComplete
  split
  · exact k.serve _ (k.link _ _ (k.writeDone _ _ h))
  · exact h

theorem frameSent (first : Bool) {s : State} (h : P s) : P (frameSent first s) := by
  unfold Machine.frameSent
  split
  · exact h
  · split
    · exact k.engineReset _ h
    · unfold leaveOrder
      dsimp only
      split
      · exact k.link _ _ (k.serve _ (k.link _ _ h))
      · exact k.serve _ (k.link _ _ (k.link _ _ h))

theorem resetEvent {s : State} (h : P s) : P (Machine.engineReset s) := by
  unfold Machine.engineReset
  split
  · exact k.engineReset _ h
  · exact h

omit k in
theorem whenUp {f : State → State} (hf : ∀ s, P s → P (f s)) {s : State} (h : P s) :
    P (whenUp f s) := by
  unfold Machine.whenUp
  split
  · exact hf _ h
  · exact h
  · exact h

theorem request (t : Time) (f : Frame) {s : State} (h : P s) : P (request t f s) :=
  KeptByCommands.whenUp (fun _ h => k.submit _ (k.advance h _)) h

/-- Every command keeps a property that the messages, the events and the resets keep. -/
theorem exec (c : Instr) {s t : State} (h : P s) (e : exec c s = .next t) : P t := by
  have next_inj : ∀ {a b : State}, (Host.Outcome.next a : Answer) = .next b → P a → P b := by
    intro a b hab ha; cases hab; exact ha
  cases c
  case powerOn pins => exact next_inj e (k.start _ _ h)
  case rstnAssert t => exact next_inj e (KeptByCommands.whenUp (fun _ h => k.hold _ (k.advance h _)) h)
  case rstnRelease pins =>
    refine next_inj e ?_
    split
    · exact k.start _ _ h
    · exact h
    · exact h
  case engineReset t => exact next_inj e (KeptByCommands.whenUp (fun _ h => k.resetEvent (k.advance h _)) h)
  case rxCharacter t ch b => exact next_inj e (KeptByCommands.whenUp (fun _ h => k.receive _ _ _ (k.advance h _)) h)
  case frameSent t b => exact next_inj e (KeptByCommands.whenUp (fun _ h => k.frameSent _ (k.advance h _)) h)
  case wcalWriteComplete t => exact next_inj e (KeptByCommands.whenUp (fun _ h => k.writeComplete (k.advance h _)) h)
  case sampleTick => exact next_inj e (KeptByCommands.whenUp k.sampleTick h)
  case shotStart => exact next_inj e (KeptByCommands.whenUp k.shotStart h)
  case durationExpiry => exact next_inj e (KeptByCommands.whenUp k.durationExpiry h)
  case rampStep => exact next_inj e (KeptByCommands.whenUp k.rampStep h)
  case transitionEntry => exact next_inj e (KeptByCommands.whenUp k.transitionEntry h)
  case lengthLimit => exact next_inj e (KeptByCommands.whenUp k.lengthLimit h)
  case forcedCut => exact next_inj e (KeptByCommands.whenUp k.forcedCut h)
  case tailExpiry => exact next_inj e (KeptByCommands.whenUp k.tailExpiry h)
  case rawTransition t j term =>
    exact next_inj e (KeptByCommands.whenUp (fun _ h => k.terminalChange _ _ _ (k.advance h _)) h)
  case debounceWindowEnd j sched => exact next_inj e (KeptByCommands.whenUp (k.debounceEnd _ _) h)
  case chatterWindowBoundary sched => exact next_inj e (KeptByCommands.whenUp (k.chatterBoundary _) h)
  case supplyCheck low volts => exact next_inj e (KeptByCommands.whenUp (k.supplyCheck _ _) h)
  case learningEnd j => exact next_inj e (KeptByCommands.whenUp (k.learningEnd _) h)
  case supervisionInterval sched => exact next_inj e (KeptByCommands.whenUp (k.supervise _) h)
  case interlockOpening t =>
    exact next_inj e (KeptByCommands.whenUp (fun _ h => k.interlockOpens _ _ (k.advance h _)) h)
  case interlockClosing t =>
    exact next_inj e (KeptByCommands.whenUp (fun _ h => k.interlockCloses _ (k.advance h _)) h)
  case ppsPulse t b => exact next_inj e (KeptByCommands.whenUp (fun _ h => k.ppsPulse _ _ _ (k.advance h _)) h)
  case holdoverEntry => exact next_inj e (KeptByCommands.whenUp k.holdoverEntry h)
  case syncTimeout => exact next_inj e (KeptByCommands.whenUp k.syncTimeout h)
  case outletSettleEnd => exact next_inj e (KeptByCommands.whenUp k.settleEnd h)
  case timerTimeout m => exact next_inj e (KeptByCommands.whenUp (k.timerTimeout _) h)
  case breakerOpenComplete b => exact next_inj e (KeptByCommands.whenUp (k.openComplete _) h)
  case breakerCloseComplete b => exact next_inj e (KeptByCommands.whenUp (k.closeComplete _) h)
  case powerLoss t =>
    refine next_inj e ?_
    split
    · exact h
    · exact k.lose _ (k.advance h _)
    · exact k.lose _ h
  all_goals exact next_inj e (k.request _ _ h)

/-- Every step keeps such a property, when the queue does not decide it. -/
theorem step (hp : ∀ s l, P s → P { s with pending := l }) {s t : State} (h : P s)
    (e : step s = .next t) : P t := by
  unfold Machine.step at e
  split at e
  · cases e
    exact KeptByCommands.whenUp (fun _ h => k.now _ _ h) h
  · exact k.exec _ (hp _ _ h) e

end KeptByCommands

end Sys2Proof.Machine
end

