-- ==== Sys2Proof/Laws/Layouts.lean ====
section
/-! SUPPORT. How a field of a record is found in its bytes: past the fields before it, by its offset; and
what a set of flags is as a bit field (R190). -/

namespace Sys2Proof.Machine

@[simp] theorem toBytes_length (n v : Nat) : (toBytes n v).length = n := by
  induction n generalizing v with
  | zero => rfl
  | succ n ih => simp [toBytes, ih]

theorem flagByte_eq (b : Bool) : flagByte b = toBytes 1 (if b then 1 else 0) := by cases b <;> decide

/-- The first field of a record stands at offset 0. -/
theorem Carries.first (n v : Nat) (rest : List Byte) : Carries (toBytes n v ++ rest) 0 n v := by
  simp [Carries]

/-- A field stands past the bytes before it. -/
theorem Carries.past {rest : List Byte} {o n v : Nat} (front : List Byte) (h : front.length ≤ o)
    (g : Carries rest (o - front.length) n v) : Carries (front ++ rest) o n v := by
  unfold Carries at *
  rw [List.drop_append, List.drop_eq_nil_of_le h]
  simpa using g

/-- A bit field is below the power of 2 of its size. -/
theorem bitField_lt (members : List Bool) : bitField members < 2 ^ members.length := by
  induction members with
  | nil => decide
  | cons a l ih =>
    simp only [bitField, List.foldr_cons, List.length_cons] at *
    split <;> omega

/-- Bit i of a bit field is the member at place i. -/
theorem testBit_bitField (members : List Bool) (i : Nat) (b : Bool) (h : members[i]? = some b) :
    (bitField members).testBit i = b := by
  induction members generalizing i with
  | nil => simp at h
  | cons a l ih =>
    have e : bitField (a :: l) = 2 * bitField l + (if a then 1 else 0) := rfl
    cases i with
    | zero =>
      obtain rfl : a = b := by simpa using h
      rw [e, Nat.testBit_zero]
      cases a <;> simp
    | succ i =>
      have half : (2 * bitField l + (if a then 1 else 0)) / 2 = bitField l := by split <;> omega
      rw [e, Nat.testBit_succ, half]
      exact ih i (by simpa using h)

/-- A byte that carries a Boolean is the flag of what the Boolean decides. -/
theorem Carries.flag {b : List Byte} {o : Nat} {p : Prop} (x : Bool)
    (h : Carries b o 1 (if x then 1 else 0)) (e : p ↔ x = true) : CarriesFlag b o p := by
  cases x <;> simp_all [CarriesFlag]

/-- A field that carries a bit field is the set of what its members decide. -/
theorem Carries.set {b : List Byte} {o n : Nat} (l : List Bool) {members : List Prop}
    (h : Carries b o n (bitField l)) (e : members = l.map fun x => x = true) :
    CarriesSet b o n members := by
  subst e
  refine ⟨bitField l, by simpa using bitField_lt l, h, fun i p hp => ?_⟩
  rw [List.getElem?_map] at hp
  cases g : l[i]? with
  | none => simp [g] at hp
  | some x =>
    obtain rfl : (x = true) = p := by simpa [g] using hp
    rw [testBit_bitField l i x g]

end Sys2Proof.Machine
end

