-- ==== Sys2Proof/Laws/Order.lean ====
section
/-! SUPPORT. What each test of the order of one tick says (R29, R31), when a reference crosses (R27), when
a start waits (R140), and what the interruption of a calibration write leaves alone (R189). -/

namespace Sys2Proof.Machine

variable (q : Sequencer) (s : State) (tick : Time)

theorem stepWaits_iff :
    stepWaits q tick = true ↔ ∃ e, q.dwellDue = some e ∧ atOrAfter e tick = true := by
  cases h : q.dwellDue <;> simp [stepWaits, h]

theorem expiryWaits_iff :
    expiryWaits q tick = true ↔ ∃ e, q.durationDue = some e ∧ atOrAfter e tick = true := by
  cases h : q.durationDue <;> simp [expiryWaits, h]

/-- An entry may go exactly while no ramp step and no expiry of its tick waits (R29). -/
theorem entryMayGo_iff :
    entryMayGo q tick = true ↔ ¬ ((∃ e, q.dwellDue = some e ∧ atOrAfter e tick = true) ∨
      ∃ e, q.durationDue = some e ∧ atOrAfter e tick = true) := by
  rw [← stepWaits_iff, ← expiryWaits_iff]
  cases h : stepWaits q tick <;> cases g : expiryWaits q tick <;> simp [entryMayGo, h, g]

theorem entryWaits_iff :
    entryWaits s tick = true ↔ ∃ p e a m, s.seq.pend = some p ∧ entryOf s p = some (e, a, m) ∧
      atOrAfter e tick = true := by
  cases h : s.seq.pend with
  | none => simp [entryWaits, h]
  | some p =>
    cases g : entryOf s p with
    | none => simp [entryWaits, h, g]
    | some x =>
      have e : entryWaits s tick = atOrAfter x.1 tick := by simp [entryWaits, h, g]
      rw [e]
      exact ⟨fun w => ⟨p, x.1, x.2.1, x.2.2, rfl, g, w⟩, fun ⟨_, _, _, _, hp, hx, w⟩ => by
        cases hp; rw [g] at hx; cases hx; exact w⟩

/-- The length limit and the sample of a tick wait, in RUNNING, exactly while a ramp step, an expiry or an
entry of that tick waits (R28, R29, R31). -/
theorem workWaits_iff :
    workWaits s tick = true ↔ s.seq.st = .running ∧
      ((∃ e, s.seq.dwellDue = some e ∧ atOrAfter e tick = true) ∨
       (∃ e, s.seq.durationDue = some e ∧ atOrAfter e tick = true) ∨
       ∃ p e a m, s.seq.pend = some p ∧ entryOf s p = some (e, a, m) ∧ atOrAfter e tick = true) := by
  have h := entryMayGo_iff s.seq tick
  have g := entryWaits_iff s tick
  unfold workWaits
  rw [Bool.and_eq_true, Bool.or_eq_true, beq_iff_eq, Bool.not_eq_true', ← Bool.not_eq_true, h, g,
    not_not, or_assoc]

/-- The sample of a tick waits, in STOPPING, exactly while a forced cut at or before the tick has not been
made and some channel would still wait after the tick's resolution (R57). -/
theorem cutWaits_iff :
    cutWaits s tick = true ↔ s.seq.st = .stopping ∧
      atOrAfter (tickAtOrAfter s.clock.anchor (after s.seq.stopBegin 50000)) tick = true ∧
      ∃ c, ((s.syn.chans.get c).resolve tick).status = .stopPending := by
  unfold cutWaits cutTick resolveTick Synth.someStopPending
  rw [Bool.and_eq_true, Bool.and_eq_true, beq_iff_eq, and_assoc]
  refine and_congr_right fun h => and_congr_right fun _ => ?_
  simp [h, SeqState.driving, Bank.mem_items]

/-- A start waits exactly while the lock, or the holdover, has an end at or before t0 that has not been taken
(R135, R140). -/
theorem lockWaits_iff (tb : TimeBase) (t0 : Time) :
    lockWaits tb t0 = true ↔ ∃ l, tb.latest = some l ∧
      (tb.sync = .locked ∧ atOrAfter (after l 1000201) t0 = true ∨
       tb.sync = .holdover ∧ atOrAfter (after l 5000000) t0 = true) := by
  unfold lockWaits
  cases tb.sync <;> cases tb.latest <;> simp

/-- A channel is idle exactly while its live frequency or its live amplitude is 0 (R27, R59). -/
theorem Chan.idle_iff (c : Chan) : c.idle = true ↔ c.freq = 0 ∨ c.amp = 0 := by
  simp [Chan.idle]

/-- A reference crosses an angle exactly when it is not idle and the target lies in the interval that its
phase word has moved through (R27). -/
theorem crossesAngle_iff (c : Chan) (angle : Nat) :
    crossesAngle c angle = true ↔ (c.freq ≠ 0 ∧ c.amp ≠ 0) ∧
      0 < (offsetWord angle - c.prev).toNat ∧
      (offsetWord angle - c.prev).toNat ≤ (c.word - c.prev).toNat := by
  have h : c.idle = false ↔ c.freq ≠ 0 ∧ c.amp ≠ 0 := by simp [Chan.idle]
  unfold crossesAngle
  rw [Bool.and_eq_true, Bool.and_eq_true, decide_eq_true_iff, decide_eq_true_iff, Bool.not_eq_true', h]

/-- Without a write in progress nothing is interrupted (R189). -/
theorem interruptWrite_of_none (h : s.cal.write = none) : s.interruptWrite = s := by
  simp [State.interruptWrite, h]

/-- The interruption of a write leaves no write, the working copies, and the state around the store. -/
theorem interruptWrite_eq : s.interruptWrite.cal.write = none ∧
    s.interruptWrite.cal.working = s.cal.working ∧
    s.interruptWrite = { s with cal := s.interruptWrite.cal,
                                freeCount := s.interruptWrite.freeCount } := by
  unfold State.interruptWrite Calibration.interrupt
  cases h : s.cal.write <;> simp [h]

end Sys2Proof.Machine
end

