-- ==== Sys2Proof/Laws/Replies.lean ====
section
/-! SUPPORT. A request that the link takes at once, said once: what its block answers is the reply, and
the state that its block leaves is the state behind the reply. -/

namespace Sys2Proof.Machine

/-- The state in which a request has reached the head of the queue. -/
def State.queued (f : Frame) (s : State) : State :=
  { s with link := { s.link with queue := [f] } }

theorem beginHead_formed (l : Link) (f : TxFrame) (rest : List TxFrame) (h : f.formed = true) :
    beginHead l (f :: rest) = f :: rest := by
  simp [beginHead, h]

@[simp] theorem Link.join_queue (l : Link) (f : TxFrame) : (l.join f).queue = l.queue := rfl

@[simp] theorem Link.transmit_queue (l : Link) : l.transmit.queue = l.queue := rfl

theorem LinkFree.mayExecute {s : State} (h : LinkFree s) : mayExecute s = true := by
  simp [Machine.mayExecute, h.noWrite, h.awake, h.room]

theorem request_up {t : Time} {f : Frame} {s : State} (h : s.power = .up) :
    request t f s = submit f (s.advance t) := by
  simp [request, whenUp, h]

/-- A request that the link takes at once is executed with the queue holding it alone. -/
theorem LinkFree.submit {s : State} (h : LinkFree s) (t : Time) (f : Frame) :
    submit f (s.advance t) = serve 1 (execute f ((s.advance t).queued f)) := by
  have hq : (s.advance t).link.queue = [] := h.noRequest
  have hr : (s.advance t).link.resetting = false := h.awake
  have hm : Machine.mayExecute ((s.advance t).queued f) = true := h.mayExecute
  unfold Machine.submit
  rw [hr, hq]
  simp only [Bool.false_eq_true, if_false, List.length_nil, Nat.zero_lt_succ, if_true, List.nil_append]
  change serve (1 + 1) ((s.advance t).queued f) = _
  conv => lhs; unfold serve
  change (if Machine.mayExecute ((s.advance t).queued f) then
    serve 1 (execute f ((s.advance t).queued f)) else (s.advance t).queued f) = _
  rw [if_pos hm]

/-- A request that the link takes at once and that its block answers at once: the state that the block
leaves, with the reply joined (R176, R177). -/
theorem LinkFree.request_replied {s z : State} {t : Time} {f : Frame} {body : List Byte}
    (h : LinkFree s) (hz : z.link.queue = [])
    (hr : respond f ((s.advance t).queued f) = (z.queued f, .reply body)) :
    request t f s = z.replied f body := by
  rw [request_up h.up, h.submit]
  unfold execute
  rw [hr]
  have he : answer .reply f body (z.queued f) = z.replied f body := by
    have : (z.queued f).link.dequeue = z.link := by
      cases hl : z.link
      simp [State.queued, Link.dequeue, hl] at hz ⊢
      exact hz
    simp only [answer, State.replied]
    rw [this]
    rfl
  simp only [he]
  have : (z.replied f body).link.queue = [] := hz
  unfold serve
  rw [this]

/-- A known kind with an allowed length goes to its block (R178). -/
theorem respond_message {f : Frame} {s : State} (hk : messageCodes.contains f.kind = true)
    (hl : lengthOk f.kind f.body = true) : respond f s = message f.kind f.body s := by
  simp [respond, hl, List.contains_iff_mem.mp hk]

/-- The command of a request that its block answers at once (R175 to R178). -/
theorem LinkFree.answered {s : State} (h : LinkFree s) (t : Time) (tag kind : Byte) (body : List Byte)
    (z : State) (reply : List Byte) (hk : messageCodes.contains kind = true)
    (hl : lengthOk kind body = true) (hz : z.link.queue = [])
    (hm : message kind body ((s.advance t).queued { kind, tag, body }) =
      (z.queued { kind, tag, body }, .reply reply)) :
    (Host.Outcome.next (request t { kind, tag, body } s) : Answer) =
      .next (z.replied { kind, tag, body } reply) :=
  congrArg _ (h.request_replied hz ((respond_message hk hl).trans hm))

end Sys2Proof.Machine
end

