-- ==== Sys2Proof/Tests/Slice0.lean ====
section
/-! SUPPORT. Tests: the smoke tests of WellFormed, worked examples and tables of the manual, and for each
statement with hypotheses a state and operands that meet them. -/

namespace Sys2Proof.Tests

set_option Elab.async false

open Sys2Proof.Machine

/-! ## Well-formed commands -/

theorem test_wf_refuses_an_oversized_body : (Instr.ginf 0 0 (List.replicate 251 0)).wf = false := by
  decide +kernel

theorem test_wf_refuses_an_oversized_unknown_request :
    (Instr.unknownKindRequest 0 0 0x60 (List.replicate 251 0)).wf = false := by decide +kernel

theorem test_wf_refuses_a_known_kind : (Instr.unknownKindRequest 0 0 0x12 []).wf = false := by decide

theorem test_wf_admits_a_full_frame : (Instr.lsta 0 0 (List.replicate 250 0)).wf = true := by decide +kernel

/-! ## Worked examples and tables of the manual -/

/-- 3.1: 50 Hz gives the increment 21,474,836. -/
theorem test_increment_50Hz : increment 50000 = 21474836#32 := by decide

/-- 3.1: 120 and 240 degrees. -/
theorem test_offsets : offsetWord 12000 = 1431655765#32 ∧ offsetWord 24000 = 2863311531#32 := by decide

/-- 3.3: 12,000 mV on a nominal voltage outlet gives the peak code 13,107. -/
theorem test_peak_code : rawPeak 71581 12000 = 13107 := by decide

/-- 3.3: the codes of the worked example at ticks 0, 50, 100, 101 and 107, with the offset 3. -/
theorem test_sample_codes :
    let code (n : Nat) := sampleCode (BitVec.ofNat 32 (21474836 * n)) 13107 3
    code 0 = 3 ∧ code 50 = 13110 ∧ code 100 = 23 ∧ code 101 = -399 ∧ code 107 = -2849 := by decide +kernel

/-- 3.2: the two shares of PARALLEL. -/
theorem test_shares : Share.first.of 7 = 4 ∧ Share.second.of 7 = 3 := by decide

/-- R174: the check value of the CRC. -/
theorem test_crc : crc [0x31, 0x32, 0x33, 0x34, 0x35, 0x36, 0x37, 0x38, 0x39] = 0x29B1#16 := by decide +kernel

/-- 9.1: one interval at 25,000 mA with the default record, and the cooling of the next. -/
theorem test_heat : heatAfter 0 25000 10000 157500000000 = 525000000 ∧
    heatAfter 157500000000 0 10000 157500000000 = 157400000000 := by decide

/-- 10.4: the curve of the worked example at 2,334, and its band. -/
theorem test_curve :
    curveExpected [⟨2000, 10030000⟩, ⟨5000, 4280000⟩, ⟨10000, 2970000⟩, ⟨20000, 2240000⟩]
      (multiple 7002 3000) = some 9389833 ∧
    bandOf { timer := 0, lap := 1, ref := 4, setting := 3000, char := .curve 0, relTol := 50,
             absTol := 40000 } 9389833 = 469492 := by decide

/-- 4.1: the release level is 80 % of the pick-up level, rounded down. -/
theorem test_release_levels : release 0 = 2 ∧ release 6 = 19 ∧ release 15 = 160 := by decide

/-- The status after power-on (R191): EMPTY, MAP_DISCONNECTED and NO_SYNC, DISCONNECTED, every account at
2/5, 16 FREE slots, STARTED pending and every kind enabled. -/
theorem test_status_after_power_on :
    (0x00 :: statusBytes State.reset : List Byte) =
      [0, 0, 0, 0, 0, 0, 0, 0x00, 0x88, 0, 0, 0, 0, 3, 0, 0, 0, 0, 0, 0x01, 0x90, 0x01, 0x90, 0x01, 0x90,
       0x01, 0x90, 0x01, 0x90, 0x01, 0x90, 16, 0, 0, 0, 0, 0x00, 0x01, 0x0F, 0xFF] := by decide +kernel

/-- The first supply check, interval and boundary are those of engine time 0 (R131). -/
theorem test_first_periodic_instants :
    let supplied := supplyCheck false (.fill 10 0) State.reset
    let charged := supervise [] State.reset
    let bounded := chatterBoundary [] State.reset
    (supplied.now = 0 ∧ supplied.clock.nextSupply = 1000) ∧
    (charged.now = 0 ∧ charged.clock.nextSupervision = 10000) ∧
    (bounded.now = 0 ∧ bounded.clock.nextChatter = 1000000) := by decide +kernel

/-! ## States for the witnesses -/

/-- A state of 100 units on every channel at 50 Hz, for 2 ms, then END; it closes BO1. -/
def record : StateRecord :=
  { tag := 1, chans := .fill 10 { amp := 100, angle := 0, freq := 50000 }, duration := 2, next := none,
    pattern := (Bank.fill 8 false).set 0 true, rule := { mode := .immediate, reset := true },
    exceptions := [], ramp := none }

/-- A ramp of one step. -/
def ramp : Ramp :=
  { chans := (Bank.fill 10 false).set 0 true, quantity := .amplitude, step := 1, dwell := 1, count := 1 }

/-- READY, with S0 loaded and a map. -/
def ready : State :=
  { State.reset with
    seq := { Sequencer.initial with
      table := (Bank.fill 24 none).set 0 (some record), commit := true, st := .ready }
    syn := { Synth.initial with map := { reversed := false, arrangement := .standard },
                                contactors := .fill 10 true } }

/-- ARMED for a source. -/
def armed (src : StartSource) (due : Option Time) : State :=
  { ready with seq := { ready.seq with st := .armed, source := some src, startDue := due },
               rep := { ready.rep with cur := .reserved } }

/-- In a shot, in a sequencer state, with S0 in force. -/
def shot (st : SeqState) : State :=
  { ready with
    seq := { ready.seq with st := st, source := some .now, inForce := some 0 }
    rep := { ready.rep with cur := .filling }
    clock := { ready.clock with anchor := some 0, nextTick := 100 } }

/-- RUNNING with a transition pending, made at 50 µs. -/
def pendingShot (mode : ArrivalMode) (untestable : Bool) (pulse : Option Time) : State :=
  { shot .running with seq := { (shot .running).seq with
      pend := some { target := 0, cause := .expiry, source := 0, request := 50,
                     rule := { mode := mode, reset := false }, deadline := none,
                     untestable := untestable, pulse := pulse } } }

/-- The link takes a request at once. -/
theorem free_of (s : State) (h : s.link = State.reset.link) (c : s.cal = State.reset.cal)
    (p : s.power = .up) : LinkFree s :=
  ⟨p, by rw [h]; rfl, by rw [h]; rfl, by rw [c]; rfl, by rw [h]; decide⟩

theorem test_witness_LinkFree : LinkFree State.reset ∧ LinkFree ready ∧ LinkFree (armed .now none) ∧
    LinkFree (shot .running) ∧ LinkFree (shot .stopping) ∧ LinkFree (shot .tail) :=
  ⟨free_of _ rfl rfl rfl, free_of _ rfl rfl rfl, free_of _ rfl rfl rfl, free_of _ rfl rfl rfl,
    free_of _ rfl rfl rfl, free_of _ rfl rfl rfl⟩

/-! ## Witnesses: the step, the link and its requests -/

theorem test_witness_StepTakesTheFrontCommand :
    (ready.withPending [.sampleTick]).pending = [.sampleTick] ∧ ready.pending = [] ∧
    ready.power = .up := ⟨rfl, rfl, rfl⟩

theorem test_witness_EveryCommandCompletes :
    ({ ready with power := .held }).power ≠ .up ∧ (∀ p, Instr.sampleTick ≠ .powerOn p) ∧
    (∀ p, Instr.sampleTick ≠ .rstnRelease p) ∧ (∀ t, Instr.sampleTick ≠ .powerLoss t) := by
  refine ⟨by decide, ?_, ?_, ?_⟩ <;> intro p h <;> cases h

theorem test_witness_FrameOnTheLineReachesTheQueue :
    ready.power = .up ∧ ready.link.rx.phase = .hunting ∧ (List.replicate 250 (0 : Byte)).length ≤ 250 ∧
    2000 ≤ 2000 := ⟨rfl, rfl, by decide +kernel, le_rfl⟩

/-- The characters of a GINF with a gap of 10 µs bring its reply into the transmit order (R173, R174). -/
theorem test_frame_is_answered :
    ((feed 10 (frameBytes { kind := 0x01, tag := 7, body := [] }) State.reset).link.order.drop 1) =
      [{ what := .reply, formed := true,
         frame := { kind := 0x81, tag := 7, body := [0, 4, 0x10, 2, 0, 0, 0, 0, 0, 0] } }] := by
  decide +kernel

/-- The link with its assembler in a phase, the last character at 0. -/
def receiving (phase : RxPhase) (len : Nat) (body : List Byte) : State :=
  { ready with now := 2000, link := { ready.link with rx :=
      { phase := phase, len := len, tag := 0, kind := 0x30, body := body, crcHigh := 0, last := 0 } } }

theorem test_witness_CharactersMoveTheAssembler :
    let sum := crc (frameCore (receiving .crcLow 0 []).link.rx.frame)
    let good : Assembler := { (receiving .crcLow 0 []).link.rx with crcHigh := sum.extractLsb' 8 8 }
    good.phase = .crcLow ∧ crc (frameCore good.frame) = good.crcHigh ++ sum.extractLsb' 0 8 ∧
    (receiving .length 0 []).power = .up ∧
    (∀ ph ∈ [RxPhase.hunting, .length, .tag, .kind, .body, .crcHigh, .crcLow],
      elapsed (receiving ph 0 []).link.rx.last ((receiving ph 0 []).advance 2000).now ≤ 2000) ∧
    (receiving .kind 0 []).link.rx.len = 0 ∧ (receiving .kind 1 []).link.rx.len ≠ 0 ∧
    (receiving .body 2 []).link.rx.body.length + 1 < (receiving .body 2 []).link.rx.len ∧
    (receiving .body 1 []).link.rx.body.length + 1 = (receiving .body 1 []).link.rx.len ∧
    (250#8).toNat ≤ 250 ∧ 250 < (251#8).toNat ∧
    crc (frameCore (receiving .crcLow 0 []).link.rx.frame) ≠
      (receiving .crcLow 0 []).link.rx.crcHigh ++ 0x00#8 ∧
    2000 < elapsed (receiving .tag 0 []).link.rx.last ((receiving .tag 0 []).advance 2001).now := by
  decide +kernel

/-- The link with frames in its order and in its queue. -/
def linked (order : List TxFrame) (queue : List Frame) : State :=
  { ready with link := { ready.link with order := order, queue := queue } }

/-- A frame of the transmit order. -/
def sent (what : TxKind) : TxFrame :=
  { what := what, formed := true, frame := { kind := 0x81, tag := 0, body := [] } }

theorem test_witness_RequestQueueHoldsTwo :
    let f : Frame := { kind := 0x01, tag := 0, body := [] }
    requestOf (.ginf 5 0 []) = some (5, f) ∧
    (linked [sent .reply, sent .reply] [f]).power = .up ∧
    (linked [sent .reply, sent .reply] [f]).link.resetting = false ∧
    (linked [sent .reply, sent .reply] [f]).link.queue.length < 2 ∧
    mayExecute (linked [sent .reply, sent .reply] [f]) = false ∧
    (linked [sent .busy] [f, f]).link.queue.length = 2 ∧ (linked [sent .busy] [f, f]).link.busies < 2 ∧
    2 ≤ (linked [sent .busy, sent .busy] [f, f]).link.busies := by decide +kernel

theorem test_witness_MalformedRequestsAreRefused :
    messageCodes.contains (0x60 : Byte) = false ∧
    requestOf (.ginf 0 0 [0]) = some (0, { kind := 0x01, tag := 0, body := [0] }) ∧
    messageCodes.contains (0x01 : Byte) = true ∧ lengthOk 0x01 [0] = false := by decide +kernel

theorem test_witness_SentFramesMakeRoom :
    let f : Frame := { kind := 0x01, tag := 0, body := [] }
    let s := linked [sent .reply, sent .reply] [f, f]
    let noted := { ready with link := { ready.link with
      order := [sent .note, sent .reply], noteDue := true, queue := [f, f] } }
    s.power = .up ∧ s.link.order = sent .reply :: [sent .reply] ∧ (sent .reply).what ≠ .resetReply ∧
    s.link.queue = f :: [f] ∧ s.link.replies = 2 ∧ (∀ x ∈ [sent .reply], x.formed = true) ∧
    s.link.resetting = false ∧ s.cal.write = none ∧ (linked [] [f]).link.order = [] ∧
    noted.link.order = sent .note :: [sent .reply] ∧ (sent .note).what = .note ∧
    noted.link.noteDue = true ∧ noted.link.replies < 2 := by
  decide +kernel

/-- A BUSY reply that leaves makes no room for the request held; a NOTE that leaves with a further one due
brings it to the tail of the order (R176, R177, log 12). -/
theorem test_frame_sent :
    let f : Frame := { kind := 0x01, tag := 0, body := [] }
    let s := linked [sent .busy, sent .reply, sent .reply] [f]
    let noted := { ready with link := { ready.link with order := [sent .note, sent .reply], noteDue := true } }
    (frameSent false s).link.queue = [f] ∧ (frameSent true s).link.replies = 2 ∧
    (frameSent false noted).link.order = [sent .reply, waitingNote] ∧
    (frameSent false noted).link.noteDue = false := by decide +kernel

theorem test_witness_NoticesJoinThePendingSet :
    State.reset.link.noticeSet.get Notice.started.bit = true ∧
    State.reset.link.noticeSet.get Notice.learnDone.bit = false ∧
    State.reset.link.mask.get Notice.learnDone.bit = true ∧
    (linked [] []).link.order = [] ∧ (linked [sent .reply] []).link.notes = 0 ∧
    (linked [sent .reply] []).link.order = sent .reply :: [] ∧ (sent .reply).formed = true ∧
    ((linked [sent .note] []).link.order.find? fun g => g.what == .note) = some (sent .note) ∧
    (sent .note).formed = true ∧ waitingNote.formed = false ∧
    ((linked [sent .reply, waitingNote] []).link.order.find? fun g => g.what == .note) =
      some waitingNote ∧
    (linked [] []).link.noticeSet.get Notice.learnDone.bit = false ∧
    (linked [waitingNote] []).link.anyReportable = true ∧
    ({ (linked [waitingNote] []).link with mask := .fill 12 false }).anyReportable = false := by
  decide +kernel

theorem test_witness_NmskAndNackSetTheNotices :
    field [0x0F, 0xFF] 0 2 ≤ 4095 ∧ 4095 < field [0x10, 0x00] 0 2 ∧ ([0x0F, 0xFF] : List Byte).length = 2 := by
  decide +kernel

theorem test_witness_GstaReportsAndClearsTheGlitch :
    ready.rep.held.length + ready.rep.cur.taken ≤ 16 := by decide

theorem test_witness_ReadingRepliesChangeNothing :
    (9#8).toNat = (9 : Outlet).val ∧ 10 ≤ (10#8).toNat ∧ (10#8).toNat = (9 : InputId).val + 1 ∧
    (0#8).toNat = 0 ∧ 11 ≤ (11#8).toNat := by decide

/-- A held report, READ or UNREAD. -/
def held (n : Nat) (unread : Bool) : HeldReport :=
  { report := { Report.empty with shotNo := n }, unread := unread }

/-- READY with two held reports, 1 UNREAD and 2 READ. -/
def reported : State := { ready with rep := { ready.rep with held := [held 1 true, held 2 false] } }

theorem test_witness_ReportsAreReadAndFreed :
    LinkFree reported ∧ readSection (field [0, 1, 8, 0] 2 1) = none ∧
    readSection (field [0, 1, 0, 0] 2 1) = some .header ∧ field [0, 1, 0, 0] 0 2 = 1 ∧
    reported.rep.find 1 = some (held 1 true) ∧ reported.rep.find 2 = some (held 2 false) ∧
    (∀ h ∈ reported.rep.held, h.report.shotNo ≠ 3) ∧ 2 ≤ field [0, 1, 2] 2 1 ∧
    field [0, 0, 1] 0 2 = 0 ∧ field [0, 0, 1] 2 1 ≤ 1 :=
  ⟨free_of _ rfl rfl rfl, by decide +kernel⟩

theorem test_witness_ErstAnswersAndHoldsTheLink :
    let s := { ready with link := { ready.link with resetting := true } }
    let two := linked [] [{ kind := 0x03, tag := 9, body := [] }, { kind := 0x01, tag := 0, body := [] }]
    requestOf (.ginf 0 0 []) = some (0, { kind := 0x01, tag := 0, body := [] }) ∧ s.power = .up ∧
    s.link.resetting = true ∧ mayExecute two = true := by decide +kernel

theorem test_witness_EngineResetRestoresTheBlocks :
    (linked [sent .resetReply] []).power = .up ∧
    (linked [sent .resetReply] []).link.resetAtHead = true := by decide

theorem test_witness_PowerOnStartsTheEngine : ({ ready with power := .held }).power = .held := rfl

theorem test_witness_RstnAndPowerLossStopTheEngine : (shot .running).power = .up := rfl

theorem test_witness_CalibrationRecordsAreChecked :
    let r := CalRecord.default 4
    let bytes := toBytes 4 r.gain ++ signedBytes 2 r.offset ++ toBytes 2 r.rating ++ toBytes 6 r.capacity
    State.reset.cal.write = none ∧ State.reset.cal.stored.get 4 = { fields := r, crc := crc bytes } ∧
    Stored.passes 4 { fields := r, crc := crc bytes } = true ∧
    Stored.passes 4 { fields := r, crc := crc bytes ^^^ 1 } = false ∧
    Stored.passes 4 (.fresh 4 { r with rating := 25001 }) = false ∧
    Stored.passes 0 (.fresh 0 (CalRecord.default 0)) = true ∧
    State.reset.cal.identity.crc = crc (toBytes 4 State.reset.cal.identity.serial.toNat) ∧
    ({ serial := 5, crc := Identity.crcOf 5 } : Identity).checked = some 5 ∧
    ({ serial := 5, crc := Identity.crcOf 5 ^^^ 1 } : Identity).checked = none := by decide +kernel

/-- Service mode. -/
def service (st : SeqState) : State :=
  { ready with seq := { ready.seq with st := st }, link := { ready.link with strap := .level1 } }

theorem test_witness_WcalWrites :
    let body : List Byte := [4, 0, 1, 0x4F, 0x89, 0, 0, 0x61, 0xA8, 0, 0xE8, 0xD4, 0xA5, 0x10, 0]
    let fields : CalRecord := { gain := 85897, offset := 0, rating := 25000, capacity := 1000000000000 }
    let s := { service .ready with cal := { ready.cal with write := some { outlet := 4, fields } },
                                   link := { (service .ready).link with
                                     queue := [{ kind := 0x07, tag := 0, body }] } }
    body.length = 15 ∧ readWcal body = some (4, fields) ∧ readWcal (List.replicate 15 0) = none ∧
    ready.link.strap ≠ .level1 ∧ (service .ready).link.strap = .level1 ∧
    (service .ready).seq.st.editable = true ∧ (service .armed).seq.st.editable = false ∧
    s.power = .up ∧ s.cal.write = some { outlet := 4, fields } ∧
    s.link.queue = [{ kind := 0x07, tag := 0, body }] := by decide +kernel

/-- Step 8 of the worked example A Busy Link: the write of the WCAL ends while a GSTA waits behind it and a
NOTE is being sent. -/
def writing (order : List TxFrame) : State :=
  { service .ready with
    cal := { ready.cal with write := some { outlet := 4, fields := CalRecord.default 4 } }
    link := { (service .ready).link with order := order, queue := [{ kind := 0x07, tag := 14, body := [] },
                                                                   { kind := 0x02, tag := 15, body := [] }] } }

theorem test_witness_WcalWrites_behind :
    let g : Frame := { kind := 0x02, tag := 15, body := [] }
    (writing []).power = .up ∧ (writing []).cal.write ≠ none ∧
    (writing []).link.queue = [{ kind := 0x07, tag := 14, body := [] }, g] ∧
    (writing []).link.resetting = false ∧ (writing [sent .note]).link.replies + 1 < 2 ∧
    2 ≤ (writing [sent .reply]).link.replies + 1 := by decide +kernel

/-- Replies 14 and 15 stand behind the NOTE; with a reply in the order the GSTA waits on (R176). -/
theorem test_request_behind_a_write :
    (writeComplete (writing [sent .note])).link.order.map (fun f => f.frame.tag) = [0, 14, 15] ∧
    (writeComplete (writing [sent .note])).link.queue = [] ∧
    (writeComplete (writing [sent .reply])).link.order.map (fun f => f.frame.tag) = [0, 14] ∧
    (writeComplete (writing [sent .reply])).link.queue = [{ kind := 0x02, tag := 15, body := [] }] := by
  decide +kernel

theorem test_witness_WcalWrites_free : LinkFree (service .ready) ∧ LinkFree (service .armed) :=
  ⟨⟨rfl, rfl, rfl, rfl, by decide⟩, ⟨rfl, rfl, rfl, rfl, by decide⟩⟩

/-! ## Witnesses: editing, the outlets, the inputs -/

/-- The bodies of LTRG, CTMR, LCRV and LGRD that the witnesses carry. -/
def ltrgBody : List Byte := [31, 1, 3, 10, 0xFF, 255, 0, 0]

/-- M8 in COUNT mode on BI10 with the longest timeout. -/
def ctmrBody : List Byte := [8, 1, 2, 10, 0, 0, 9, 0x27, 0xC0, 1]

/-- C4 with two points, the second at the greatest multiple and time. -/
def lcrvBody : List Byte :=
  [4, 2, 0, 0, 0, 1, 0, 0, 0, 0, 0, 0x0F, 0x42, 0x40, 0x23, 0xC3, 0x46, 0]

/-- G8 with a DEFINITE characteristic. -/
def lgrdBody : List Byte :=
  [8, 1, 1, 4, 4, 0xC3, 0x50, 0, 0, 0, 0, 0, 0, 0, 0, 1, 0, 1, 0xF4, 0, 0x0F, 0x42, 0x40]

theorem test_witness_EditsTakeEffect :
    ready.seq.st.editable = true ∧ lengthOk 0x10 (lstaBody 23 record) = true ∧
    readLsta (lstaBody 23 record) = some (23, record) ∧
    readLtrg ltrgBody = some (31, { enabled := true, event := .inputActive 9, filter := none,
                                    occurrence := 255, action := .goto 0 }) ∧
    readCtmr ctmrBody = some (7, { enabled := true, mode := .count 9, limit := 1, timeout := 600000,
                                   auto := true }) ∧
    lengthOk 0x16 lcrvBody = true ∧
    readLcrv lcrvBody = some (3, some [⟨1, 0⟩, ⟨1000000, 600000000⟩]) ∧
    readLgrd lgrdBody = some (7, some { timer := 0, lap := 4, ref := 4, setting := 50000,
                                        char := .definite 0 1, relTol := 500, absTol := 1000000 }) ∧
    ltrgBody.length = 8 ∧ ctmrBody.length = 10 ∧ lgrdBody.length = 23 := by decide +kernel

theorem test_witness_EditsAreRefused :
    requestOf (.smap 1 2 [2, 0]) = some (1, { kind := 0x20, tag := 2, body := [2, 0] }) ∧
    lengthOk 0x20 [2, 0] = true ∧ readSmap [2, 0] = none ∧ (shot .running).seq.st.editable = false ∧
    readLsta (24 :: (lstaBody 0 record).drop 1) = none ∧ readCmit [0, 0, 0x27, 0x11, 0, 1] = none ∧
    readLtrg [32, 0, 0, 0, 0, 0, 1, 0] = none ∧ readCtmr [9, 0, 0, 0, 1, 0, 0, 0, 0, 0] = none ∧
    readCbrk [3, 0, 0, 0, 0, 0, 0, 0, 0, 0, 0, 0, 0] = none ∧
    readLcrv [1, 1, 0, 0, 0, 1, 0, 0, 0, 0] = none ∧ readLgrd (List.replicate 23 0) = none ∧
    readCinp [11, 0, 0, 0, 0, 0] = none ∧ (∀ free, readLrnt [1, 1, 16, 0, 0] free = none) ∧
    requestOf (.lrnt 1 2 [1, 1, 16, 0, 0]) = some (1, { kind := 0x22, tag := 2, body := [1, 1, 16, 0, 0] }) ∧
    lengthOk 0x22 [1, 1, 16, 0, 0] = true ∧ ready.seq.st.editable = true ∧
    lengthOk 0x22 [1, 0, 0, 0, 0, 4] = true ∧ readLrnt [1, 0, 0, 0, 0, 4] 0 = none := by decide +kernel

theorem test_witness_OperandsStayInRange :
    readCmit [0, 1, 0x27, 0x10, 1, 50] =
      some { tag := 1, tail := 10000, sagMode := .stop, persistence := 50 } ∧
    readCbrk [2, 1, 10, 0, 3, 0xE8, 3, 0xE8, 8, 0, 2, 0, 1] =
      some (1, { enabled := true, trip := some 9, close := none, openTime := 1000, closeTime := 1000,
                 out52a := some 7, out52b := none, group := some .groupJ, line := true,
                 startsOpen := true }) ∧
    readCinp [10, 1, 15, 250, 1, 255] = some (9, { wet := true, code := 15, debounce := 250,
                                                    activeHigh := true, limit := 255 }) ∧
    readLrnt [1, 0, 15, 0, 1] 0x2C = some (0, .fast 15 0 300) ∧
    readLrnt [1, 1, 15, 0xFD, 0] 0 = some (0, .full 15 (-3)) ∧
    readArm [1, 60, 0] = some (.pps 60) ∧ readArm [1, 61, 0] = none := by decide +kernel

/-- The record with a ramp and four exceptions is legal. -/
theorem test_witness_LstaBodyReadsBack :
    let rule : Rule := { mode := .atAngle 9 35999, reset := false }
    let r : StateRecord := { record with
      tag := 65535
      next := some 23
      duration := 3600000
      exceptions := [⟨0, rule⟩, ⟨1, rule⟩, ⟨2, rule⟩, ⟨23, rule⟩]
      ramp := some { ramp with step := -5000, dwell := 60000, count := 1000 } }
    (lstaBody 5 r).length = 131 ∧ lengthOk 0x10 (lstaBody 5 r) = true ∧
    readLsta (lstaBody 5 r) = some (5, r) := by decide +kernel

theorem test_witness_LstaBodyReadsBack_legal : record.Legal where
  tag := by decide
  amp := by decide +kernel
  angle := by decide +kernel
  freq := by decide +kernel
  duration := by decide
  rule := by intro r a h; cases h
  few := by decide
  distinct := by decide
  rules := by intro e h; cases h
  ramp := by intro p h; cases h

theorem test_witness_CbrkConfiguresOrConflicts :
    let body : List Byte := [1, 1, 1, 1, 0, 0, 0, 0, 1, 1, 1, 0, 0]
    let off : List Byte := [1, 0, 1, 1, 0, 0, 0, 0, 1, 1, 1, 0, 0]
    let c := (readCbrk body).map (·.2)
    let taken : BrkConfig := { BrkConfig.default with
      enabled := true, group := some .groupI, line := true, out52a := some 0 }
    body.length = 13 ∧ (readCbrk body).map (·.1) = some 0 ∧ (readCbrk off).map (·.2.enabled) = some false ∧
    c.bind (·.trip) = some 0 ∧ c.bind (·.close) = some 0 ∧ c.bind (·.group) = taken.group ∧
    c.map (·.line) = some taken.line ∧ c.bind (·.out52a) = taken.out52a ∧
    c.bind (·.out52b) = taken.out52a ∧ ready.seq.commit = true ∧ patternNames ready.seq 0 = true := by
  decide +kernel

/-- CMIT of the worked forms: it commits, and each check that fails is reported (R14). -/
theorem test_cmit_conflicts :
    let bk : Breaker := { Breaker.initial with cfg :=
      { BrkConfig.default with enabled := true, out52a := some 0 } }
    let entry : TrigEntry :=
      { enabled := true, event := .timerStop 0, filter := none, occurrence := 0, action := .mark }
    let grade : Grade :=
      { timer := 0, lap := 1, ref := 4, setting := 1, char := .curve 0, relTol := 0, absTol := 0 }
    let table (r : StateRecord) : Sequencer := { ready.seq with table := (Bank.fill 24 none).set 0 (some r) }
    cmitConflict ready = none ∧ cmitConflict State.reset = some (1, 0) ∧
    cmitConflict { ready with seq := table { record with next := some 5 } } = some (2, 5) ∧
    cmitConflict { ready with seq := table { record with rule := { mode := .atPps, reset := false } } } =
      some (3, 0) ∧
    cmitConflict { ready with brk := ready.brk.set 1 bk } = some (4, 0) ∧
    cmitConflict { ready with trg := ready.trg.set 31 { entry := some entry, count := 0 } } =
      some (5, 31) ∧
    cmitConflict { ready with rep := { ready.rep with grades := ready.rep.grades.set 7 (some grade) } } =
      some (6, 8) := by decide +kernel

/-- Check 2 reports the first unloaded reference in the order of R15: a record's next state, then its
from-states, and the entries after the records. -/
theorem test_witness_CmitCommitsOrConflicts :
    let rule : Rule := { mode := .immediate, reset := false }
    let r : StateRecord := { record with next := some 7, exceptions := [⟨0, rule⟩, ⟨3, rule⟩] }
    let entry : TrigEntry :=
      { enabled := true, event := .pps, filter := some 2, occurrence := 0, action := .goto 1 }
    let s : State := { ready with
      seq := { ready.seq with table := (Bank.fill 24 none).set 0 (some r) }
      trg := ready.trg.set 31 { entry := some entry, count := 0 } }
    ready.seq.st.editable = true ∧ (readCmit [0, 0, 0, 0, 0, 1]).isSome = true ∧
    ([0, 0, 0, 0, 0, 1] : List Byte).length = 6 ∧ references s = [7, 0, 3, 2, 1] ∧
    cmitConflict s = some (2, 7) := by decide +kernel

theorem test_witness_SmapSettlesTheOutlets :
    readSmap [1, 0] = some { reversed := true, arrangement := .standard } ∧
    readSmap [0, 3] = some { reversed := false, arrangement := .disconnected } ∧
    ready.syn.settle = none ∧ ready.syn.map.arrangement = .standard ∧
    ({ ready with syn := { ready.syn with settle := some 50000 } }).syn.settle = some 50000 := by
  decide +kernel

theorem test_witness_TheMapDerivesTheOutlets :
    routeOf { reversed := true, arrangement := .parallel } 8 = some (6, .second) ∧
    routeOf { reversed := false, arrangement := .swapped } 4 = some (7, .whole) ∧
    routeOf { reversed := false, arrangement := .disconnected } 0 = none := by decide

/-- An input in mode WET. -/
def wet (learn : Option Learning) : State :=
  { ready with inp := ready.inp.set 0 { Input.initial with cfg := { InputConfig.default with wet := true },
                                                           learn := learn } }

/-- A learning with 100 readings of 100 V. -/
def learnt (m : Method) (sum : Nat) : Learning := { method := m, readings := 100, sum := sum }

theorem test_witness_CinpDerivesAfresh :
    readCinp [1, 1, 6, 10, 1, 0] = some (0, { wet := true, code := 6, debounce := 10, activeHigh := true,
                                               limit := 0 }) ∧
    ((wet none).inp.get 0).learn = none ∧
    ((wet (some (learnt (.full 15 0) 0))).inp.get 0).learn ≠ none := by decide +kernel

/-- FULL with 100 V: the limit of 70 V gives code 10, and the trim of -1 code 9 (R80). -/
theorem test_full_learning : (Method.full 15 (-1)).code 100 = 9 ∧ (Method.full 15 0).code 4 = 0 ∧
    (Method.fast 3 9 100).code 99 = 3 ∧ (Method.fast 3 9 100).code 100 = 9 := by decide

theorem test_witness_LrntBeginsALearning :
    ready.seq.st.editable = true ∧ ([1, 1, 15, 3, 0] : List Byte).length = 5 ∧
    (∀ free, readLrnt [1, 1, 15, 3, 0] free = some (0, .full 15 3)) ∧
    ([1, 1, 15, 3, 0, 0, 0] : List Byte).length ≠ 5 ∧ ([1, 1, 15, 3, 0, 0, 0] : List Byte).length ≠ 6 ∧
    ([1, 0, 15, 0, 1, 0x2C] : List Byte).length = 6 ∧
    readLrnt [1, 0, 15, 0, 1, 0x2C] 0 = some (0, .fast 15 0 300) ∧
    ((wet none).inp.get 0).cfg.wet = true ∧ ((wet none).inp.get 0).learn = none ∧
    (ready.inp.get 0).cfg.wet = false :=
  ⟨rfl, rfl, fun _ => rfl, by decide, by decide, rfl, by decide +kernel, by decide, by decide, by decide⟩

theorem test_witness_LearningEnds :
    ((wet (some (learnt (.full 15 0) 10000))).inp.get 0).learn = some (learnt (.full 15 0) 10000) ∧
    (learnt (.full 15 0) 10000).readings = 100 ∧ 499 / 100 < 5 ∧ 5 ≤ 500 / 100 := by decide +kernel

theorem test_witness_TerminalsMoveTheInput :
    let level (volts : Nat) := ({ (wet none).inp.get 0 with term := { volts, closed := false } }).compare
    (wet none).power = .up ∧ level 24 = true ∧ level 23 = false ∧
    ((wet none).inp.get 0).chatter = false ∧ ((wet none).inp.get 0).cfg.limit < 2 ∧
    2 ≤ ({ Input.initial with cfg := { InputConfig.default with limit := 2 } }).cfg.limit := by
  decide +kernel

/-- An input whose level has changed, in a sequencer state. -/
def bouncing (st : SeqState) (src : Option StartSource) : State :=
  { shot st with
    seq := { (shot st).seq with source := src }
    inp := ready.inp.set 0 { Input.initial with
      raw := true, window := some { opened := 100, ends := 1100, counted := true } } }

theorem test_witness_DebounceQualifiesTheEdge :
    ((bouncing .running none).inp.get 0).window = some { opened := 100, ends := 1100, counted := true } ∧
    (bouncing .running none).seq.st.inShot = true ∧ (bouncing .ready none).seq.st.inShot = false ∧
    (bouncing .armed (some (.input 0 .active))).seq.source = some (.input 0 .active) ∧
    (bouncing .armed none).seq.startDue = none := by decide +kernel

/-- READY with BI1 in CHATTER, its raw level changed and its count at half the limit. -/
def chattering : State :=
  { ready with inp := ready.inp.set 0 { Input.initial with
      cfg := { InputConfig.default with limit := 5 }, raw := true, chatter := true, count := 2 } }

/-- The same in a shot. -/
def chatteringShot : State := { shot .running with inp := chattering.inp }

theorem test_witness_ChatterWindowsEnd :
    chattering.power = .up ∧ chattering.seq.st.inShot = false ∧ chatteringShot.seq.st.inShot = true ∧
    chatteringShot.power = .up ∧
    atOrAfter chatteringShot.now chatteringShot.clock.nextChatter = true ∧
    atOrAfter chattering.now chattering.clock.nextChatter = true ∧
    (chattering.inp.get 0).chatter = true ∧
    (chattering.inp.get 0).count ≤ (chattering.inp.get 0).cfg.limit / 2 ∧
    (chattering.inp.get 0).raw ≠ (chattering.inp.get 0).held ∧
    (chattering.inp.get 0).raw = (chattering.inp.get 0).cfg.activeHigh := by decide +kernel

/-- An input that leaves CHATTER in a shot produces a counted edge (R73, R76). -/
theorem test_chatter_exit :
    let u := chatterBoundary [] chatteringShot
    (u.inp.get 0).chatter = false ∧ (u.inp.get 0).qual = true ∧ (u.inp.get 0).edges = 1 := by
  decide +kernel

/-- A window opened before t0 counts its closing alone (R74). -/
theorem test_window_across_the_start :
    let i := { Input.initial with
      raw := true, window := some { opened := 0, ends := 9, counted := true } }
    openingBounces i.window = 1 ∧ openingBounces i.begin.window = 0 ∧ i.begin.window ≠ none := by
  decide +kernel

/-! ## Witnesses: the shot -/

theorem test_witness_RejectSourcesAreConditions :
    rejectSet State.reset = [.mapDisconnected, .noSync] ∧ rejectSet ready = [.noSync] := by
  decide +kernel

theorem test_witness_ArmReservesASlot :
    ready.seq.st = .ready ∧ readArm [0, 0, 0] = some .now ∧ readArm [3, 0, 0] = none ∧
    countedSet .now ready = [] ∧ countedSet (.pps 1) ready = [.noSync] ∧
    State.reset.seq.st ≠ .ready := by decide +kernel

theorem test_witness_DarmStopAndAbrt :
    (armed .now none).seq.st = .armed ∧ (shot .running).seq.st = .running ∧
    (shot .stopping).seq.st = .stopping ∧ (shot .tail).seq.st = .tail ∧ ready.seq.st ≠ .armed ∧
    ready.seq.st.inShot = false ∧ ready.seq.st.editable = true := by decide

theorem test_witness_ShotStartsAtT0 :
    let s := armed .now (some 1000)
    s.power = .up ∧ s.seq.st = .armed ∧ s.seq.startDue = some 1000 ∧ s.seq.source = some .now ∧
    s.rep.held.length ≤ 16 := by decide +kernel

/-- ARMED for NOW with a start due, in a sync state with L at 7. -/
def dueWith (sync : Sync) (t0 : Time) : State :=
  { armed .now (some t0) with tb := { latest := some 7, sync := sync, glitch := false } }

/-- A start at the end of LOCKED or of HOLDOVER waits for it, and one a microsecond before does not; after
the holdover entry the reference is that of HOLDOVER (R140). -/
theorem test_start_at_the_end_of_the_lock :
    let reference (s : State) := (shotStart s).rep.fill.ppsRef
    reference (dueWith .locked 1000207) = some (1000200, .locked) ∧
    shotStart (dueWith .locked 1000208) = dueWith .locked 1000208 ∧
    reference (holdoverEntry (dueWith .locked 1000208)) = some (1000201, .holdover) ∧
    reference (dueWith .holdover 5000006) = some (4999999, .holdover) ∧
    shotStart (dueWith .holdover 5000007) = dueWith .holdover 5000007 ∧
    reference (syncTimeout (dueWith .holdover 5000007)) = none := by decide +kernel

theorem test_witness_ShotStartsAtT0_waits :
    (dueWith .locked 1000208).seq.startDue = some 1000208 ∧ (dueWith .locked 1000208).power = .up ∧
    (dueWith .locked 1000208).seq.st = .armed ∧ (dueWith .locked 1000208).seq.source = some .now ∧
    (dueWith .locked 1000208).tb.latest = some 7 ∧
    atOrAfter (after 7 1000201) 1000208 = true ∧ atOrAfter (after 7 5000000) 5000007 = true ∧
    lockWaits (dueWith .locked 1000207).tb 1000207 = false ∧ atOrAfter (7 : Time) 1000207 = true ∧
    lockWaits (dueWith .holdover 5000006).tb 5000006 = false ∧
    lockWaits (armed .now (some 1000)).tb 1000 = false := by decide +kernel

/-- The shot that starts at 1,000 µs: shot number 1, S0 entered, BO1 closed, SHOT_STARTED pending
(R22). -/
theorem test_shot_start :
    let u := shotStart (armed .now (some 1000))
    u.seq.st = .running ∧ u.seq.shotNo = 1 ∧ u.seq.durationDue = some 3000 ∧
    (u.out.get 0).closed = true ∧ u.link.noticeSet.get Notice.shotStarted.bit = true ∧
    u.rep.fill.trail.length = 1 ∧ u.rep.fill.tag = ready.seq.header.tag ∧ u.rep.fill.t0 = 1000 ∧
    u.rep.fill.map = ready.syn.map := by decide +kernel

/-- RUNNING with the duration due at 2 ms and a dwell as given. -/
def expiring (dwell : Option Time) : State :=
  { shot .running with seq := { (shot .running).seq with durationDue := some 2000, dwellDue := dwell } }

theorem test_witness_DurationsExpire :
    let s := expiring none
    s.power = .up ∧ s.seq.st = .running ∧ s.seq.durationDue = some 2000 ∧ s.seq.inForce = some 0 ∧
    s.seq.pend = none ∧ (s.seq.record 0).next = none ∧ s.seq.dwellDue = none ∧
    (expiring (some 2000)).seq.dwellDue = some 2000 ∧ atOrAfter (2000 : Time) 2000 = true ∧
    atOrAfter (2001 : Time) 2000 = false ∧
    (pendingShot .immediate false none).seq.pend ≠ none ∧
    ({ record with next := some 1 }).next = some 1 := by decide +kernel

/-- A ramp step due at the tick of an expiry comes first; one due later does not hold it (R29). -/
theorem test_expiry_waits_for_the_ramp_step :
    durationExpiry (expiring (some 2000)) = expiring (some 2000) ∧
    (durationExpiry (expiring (some 2001))).seq.st = .stopping := by decide +kernel

/-- RUNNING in a state with a ramp whose first step is due. -/
def ramping : State :=
  { shot .running with seq := { (shot .running).seq with
      table := (Bank.fill 24 none).set 0 (some { record with ramp := some ramp }),
      dwellDue := some 1000 } }

theorem test_witness_RampsStep :
    ramping.power = .up ∧ ramping.seq.st = .running ∧ ramping.seq.dwellDue = some 1000 ∧
    ramping.seq.inForce = some 0 ∧ (ramping.seq.record 0).ramp = some ramp ∧
    ramping.seq.rampSteps + 1 = ramp.count := by decide +kernel

/-- A reference whose phase word has just passed 0. -/
def crossing (amp freq : Nat) : Chan :=
  { Chan.initial with amp := amp, freq := freq, psi := 1, prev := 0xFFFFFFFF }

/-- A reference that a ramp has brought to amplitude or frequency 0 crosses nothing, and its wait ends at the
deadline with ANGLE_MISSED (R27). -/
theorem test_ramped_to_zero :
    let s := pendingShot (.atAngle 0 0) false none
    let at_ (amp freq : Nat) (t : Time) : State :=
      { s with now := t, syn := { s.syn with chans := s.syn.chans.set 0 (crossing amp freq) }
               clock := { s.clock with nextTick := t } }
    (at_ 100 50000 200).seq.pend.bind (entryOf (at_ 100 50000 200)) = some (200, false, false) ∧
    (at_ 0 50000 200).seq.pend.bind (entryOf (at_ 0 50000 200)) = none ∧
    (at_ 100 0 200).seq.pend.bind (entryOf (at_ 100 0 200)) = none ∧
    (at_ 0 50000 1000100).seq.pend.bind (entryOf (at_ 0 50000 1000100)) = some (1000100, true, false) := by
  decide +kernel

theorem test_witness_TransitionsAreTaken :
    let at_ := pendingShot (.atAngle 0 0) false none
    (∀ s ∈ [pendingShot .immediate false none, at_, pendingShot .atPps false none,
        pendingShot .atPps false (some 70)],
      s.power = .up ∧ s.seq.st = .running ∧ s.seq.pend ≠ none ∧ s.seq.inForce = some 0 ∧
      s.rep.cur = .filling) ∧
    isAfter 50 (tickDue at_) = true ∧ crossesAngle (at_.syn.chans.get 0) 0 = false ∧
    atOrAfter (after 50 1000000) (tickDue at_) = false ∧
    crossesAngle (crossing 100 50000) 0 = true ∧
    (ramping.seq.dwellDue = some 1000 ∧ atOrAfter (1000 : Time) 1000 = true) ∧
    (expiring none).seq.durationDue = some 2000 ∧
    atOrAfter (after 50 1000000)
      (tickDue { at_ with now := 1000100, clock := { at_.clock with nextTick := 1000100 } }) = true := by
  decide +kernel

/-- An entry at its tick waits for an expiry of that tick (R29). -/
theorem test_entry_waits_for_the_expiry :
    let s := pendingShot .immediate false none
    let due (t : Time) : State := { s with seq := { s.seq with durationDue := some t } }
    transitionEntry (due 100) = due 100 ∧ (transitionEntry (due 101)).seq.pend = none := by decide +kernel

theorem test_witness_HardStopsMuteAtOnce :
    (shot .running).rep.cur = .filling ∧ (shot .running).seq.st = .running ∧
    (shot .stopping).rep.cur = .filling ∧ (shot .stopping).seq.st = .stopping ∧
    (shot .tail).rep.cur = .filling ∧ (shot .tail).seq.st = .tail ∧ .abort ∉ (shot .tail).seq.further ∧
    ready.seq.st.inShot = false := by decide

theorem test_witness_ShotsEnd :
    let s := { shot .stopping with syn := { ready.syn with
      chans := ready.syn.chans.set 0 { Chan.initial with status := .stopPending } } }
    s.power = .up ∧ s.seq.st = .stopping ∧ (s.syn.chans.get 0).status = .stopPending ∧
    s.seq.header.tail = 0 ∧ (shot .running).seq.dwellDue = none ∧
    (shot .running).seq.durationDue = none ∧ (shot .running).seq.pend = none ∧
    (expiring none).seq.durationDue = some 2000 ∧ atOrAfter (2000 : Time) (after 0 4000000000) = true ∧
    ({ shot .tail with seq := { (shot .tail).seq with tailDue := some 9 } }).seq.tailDue = some 9 := by
  decide +kernel

/-- An END expiry at t0 + 4,000,000,000 µs is taken before the length limit (R31). -/
theorem test_length_limit_is_last :
    let s := { shot .running with now := 4000000000, seq := { (shot .running).seq with
      durationDue := some 4000000000 } }
    lengthLimit s = s ∧ (durationExpiry s).seq.endReason = some .complete ∧
    lengthLimit (durationExpiry s) = durationExpiry s := by decide +kernel

/-- With a tail time of 0 a second hard cause of the instant joins the further causes before the tail
expires (R35, R36). -/
theorem test_second_hard_cause :
    let u := (shot .running).hardStop .interlock 7
    (u.hardStop .abort 7).seq.further = [.abort] ∧ u.seq.tailDue = some 7 ∧
    (tailExpiry (u.hardStop .abort 7)).seq.st = .ready := by decide +kernel

theorem test_witness_FinalizationHoldsTheReport : (shot .tail).rep.cur = .filling := rfl

theorem test_witness_GradesFollowTheCharacteristic :
    let g : Grade := { timer := 0, lap := 1, ref := 4, setting := 3000, char := .curve 0, relTol := 50,
                       absTol := 40000 }
    let tm : Timer := { Timer.initial with start := some 0, amps := some (.fill 10 7002),
                                           laps := [⟨9702410, 9702410, false⟩] }
    let curves := (Bank.fill 4 none).set 0 (some [⟨2000, 10030000⟩, ⟨5000, 4280000⟩])
    0 < g.setting ∧ 1 ≤ g.lap ∧ tm.start = some 0 ∧ Timer.initial.start = none ∧
    (gradeOne curves ((Bank.fill 8 .initial).set 0 tm) 0 g).verdict = .pass := by decide +kernel

theorem test_witness_SampleTickEmitsTheCodes :
    (shot .running).power = .up ∧ atOrAfter (shot .running).now (shot .running).clock.nextTick = true ∧
    (shot .running).seq.st.driving = true ∧ ready.seq.st.driving = false ∧
    workWaits (shot .running) 0 = false ∧
    workWaits (expiring none) 2000 = true ∧ workWaits (expiring none) 1999 = false ∧
    Chan.initial.stopRequest 0 = { Chan.initial with status := .stopPending } ∧
    ((Chan.initial.stopRequest 0).resolve 100).status = .stopped := by decide +kernel

/-- STOPPING since 0, with a channel that waits for a crossing, at the tick of the forced cut. -/
def cutting : State :=
  { shot .stopping with
    now := 50000
    syn := { ready.syn with
      chans := ready.syn.chans.set 0 { Chan.initial with amp := 100, freq := 50000, status := .stopPending } }
    clock := { (shot .stopping).clock with nextTick := 50000 } }

/-- The sample of the cut tick waits for the forced cut; then every code of the tick is 0 (R57). -/
theorem test_forced_cut_comes_before_its_sample :
    sampleTick cutting = cutting ∧ cutWaits cutting 49900 = false ∧
    (forcedCut cutting).seq.st = .tail ∧ (forcedCut cutting).seq.tailDue = some 50000 ∧
    (sampleTick (forcedCut cutting)).syn.dac = .fill 10 0 ∧
    (sampleTick (forcedCut cutting)).clock.nextTick = 50100 := by decide +kernel

theorem test_witness_SampleTickEmitsTheCodes_cut :
    cutting.power = .up ∧ atOrAfter cutting.now cutting.clock.nextTick = true ∧ cutting.seq.st = .stopping ∧
    atOrAfter (tickAtOrAfter cutting.clock.anchor (after cutting.seq.stopBegin 50000)) 50000 = true ∧
    ((cutting.syn.chans.get 0).resolve 50000).status = .stopPending := by decide +kernel

theorem test_witness_SupervisionChargesTheOutlets :
    let hot : Supervision := { Supervision.initial with
      thermal := .fill 6 { heat := 157499999999, given := false, hot := false, peak := 0 } }
    ready.power = .up ∧ atOrAfter ready.now ready.clock.nextSupervision = true ∧
    ready.seq.st ≠ .tail ∧ overloadedBy { ready with sup := hot } = [] := by decide +kernel

/-- An outlet at 25,000 mA overloads from just below its capacity (R145). -/
theorem test_overload :
    let y := { ready.syn with amps := .fill 10 25000 }
    let th : Thermal := { heat := 157499999999, given := false, hot := false, peak := 0 }
    let s := { shot .running with syn := y, sup := { ready.sup with thermal := ready.sup.thermal.set 5 th } }
    overloadedBy s = [5] ∧ (supervise [] s).seq.endReason = some (.hard (.overload 5)) ∧
    (supervise [] s).seq.st = .tail ∧ (supervise [] s).seq.tailDue = some 0 := by decide +kernel

theorem test_witness_SupplyAndInterlock :
    let low := { ready with sup := { ready.sup with low := 4 } }
    ready.power = .up ∧ atOrAfter ready.now ready.clock.nextSupply = true ∧
    low.seq.header.persistence ≤ min (low.sup.low + 1) 50 ∧ low.sup.sag = false ∧
    low.seq.header.sagMode = .stop ∧ ready.sup.interlockOpen = false ∧
    (armed .now none).seq.source = some .now := by decide +kernel

theorem test_witness_PulsesMoveTheTimeBase :
    let base (sync : Sync) := { ready with tb := { latest := some 0, sync, glitch := false } }
    (base .locked).power = .up ∧ (base .locked).tb.latest = some 0 ∧
    elapsed 0 ((base .locked).advance 999799).now < 999800 ∧
    999800 ≤ elapsed 0 ((base .locked).advance 999800).now ∧
    elapsed 0 ((base .locked).advance 1000200).now ≤ 1000200 ∧
    1000200 < elapsed 0 ((base .locked).advance 1000201).now ∧
    (armed (.pps 1) none).seq.source = some (.pps 1) ∧ (armed (.pps 1) none).seq.startDue = none ∧
    (pendingShot .atPps false none).seq.pend.map (fun q => q.awaits 1000250) = some true ∧
    (pendingShot .atPps false none).seq.pend.map (fun q => q.awaits 50) = some false ∧
    tickAtOrAfter (some 0) 1000100 = 1000100 ∧ (pendingShot .atPps false none).seq.dwellDue = none ∧
    (pendingShot .atPps false none).seq.durationDue = none ∧
    (expiring none).seq.durationDue = some 2000 ∧ atOrAfter (2000 : Time) 1000100 = true := by
  decide +kernel

theorem test_witness_TimersStartStopAndTimeOut :
    let tm : Timer := { Timer.initial with
      cfg := { TimerConfig.default with enabled := true, timeout := 10 }, run := .running,
      start := some 0, due := some 10000 }
    let s := { shot .running with tmr := (shot .running).tmr.set 0 tm }
    s.power = .up ∧ s.seq.st.inShot = true ∧ (s.tmr.get 0).run = .running ∧
    (s.tmr.get 0).due = some 10000 ∧ (s.tmr.get 0).cfg.enabled = true ∧ tm.start = some 0 := by
  decide +kernel

/-- M1 in a mode on BI1, with the input's level and the timer's last active edge at 40 µs. -/
def timing (mode : TimerMode) (run : RunState) (qual : Bool) (pulse : Option Time) : State :=
  { shot .running with
    inp := ready.inp.set 0 { Input.initial with qual := qual }
    tmr := (shot .running).tmr.set 0 { Timer.initial with
      cfg := { TimerConfig.default with enabled := true, mode := mode, limit := 2 }, run := run,
      start := some 0, lastActive := some 40, pulse := pulse } }

/-- The start of a WIDTH timer counts the active edge at or after its start time and opens a pulse at it;
an inactive edge closes the pulse into a lap (R108, R110). -/
theorem test_witness_TimersTakeEdges :
    let idle := timing (.width 0) .idle true none
    let open_ := timing (.width 0) .running true (some 40)
    let at_ (c : Time) := ((startTimer 0 c 50 idle).1.tmr.get 0)
    (idle.inp.get 0).qual = (idle.inp.get 0).cfg.activeHigh ∧ (idle.tmr.get 0).lastActive = some 40 ∧
    (at_ 40).count = 1 ∧ (at_ 40).pulse = some 40 ∧ (at_ 41).count = 0 ∧ (at_ 41).pulse = none ∧
    ((startTimer 0 40 50 (timing (.count 0) .idle true none)).1.tmr.get 0).count = 1 ∧
    ((timerEdge 0 0 .active 60 70 (timing (.width 0) .running true none)).1.tmr.get 0).pulse = some 60 ∧
    ((timerEdge 0 0 .active 60 70 (timing (.count 0) .running true none)).1.tmr.get 0).count = 1 ∧
    ((timerEdge 0 0 .inactive 60 70 open_).1.tmr.get 0).laps.map (fun l => l.value) = [20] ∧
    (timerEdge 0 0 .inactive 60 70 open_).2 = [{ kind := .timerStop 0, time := 60, routed := 70 }] ∧
    (timerEdge 0 1 .active 60 70 open_) = (open_, []) := by decide +kernel

/-- In a shot with BK1 enabled, in a breaker state with an operation. -/
def breaking (st : BrkState) (op : Option Operation) : State :=
  { shot .running with brk := ready.brk.set 0 { Breaker.initial with
      cfg := { BrkConfig.default with enabled := true, trip := some 0, group := some .groupI },
      st := st, op := op } }

/-- An open or a close, due at 30 ms. -/
def operation (opens : Bool) : Operation :=
  { opens := opens, command := 0, cause := .input 0, due := 30000, replaced := none }

theorem test_witness_OperationsComplete :
    (breaking .opening (some (operation true))).power = .up ∧
    (breaking .opening (some (operation true))).seq.st.inShot = true ∧
    ((breaking .opening (some (operation true))).brk.get 0).op = some (operation true) ∧
    ((breaking .closing (some (operation false))).brk.get 0).op = some (operation false) := by
  decide +kernel

/-- BK1 enabled with 52a on BO2 and 52b on BO3, in a breaker state. -/
def wired (st : BrkState) : State :=
  { shot .running with brk := ready.brk.set 0 { Breaker.initial with
      cfg := { BrkConfig.default with enabled := true, out52a := some 1, out52b := some 2 }, st := st } }

/-- The tables of R124 and R129: BO2 follows 52a, BO3 follows 52b, BO1 the pattern of S0, BO4 nothing. -/
theorem test_output_tables :
    let level (st : BrkState) (o : BoutId) := (outputNow (wired st) o).closed
    ([BrkState.closed, .opening, .opened, .closing].map fun st => level st 1) = [true, true, false, false] ∧
    ([BrkState.closed, .opening, .opened, .closing].map fun st => level st 2) = [false, false, true, true] ∧
    outputNow (wired .closed) 0 = { owner := .sequence, closed := true } ∧
    outputNow (wired .closed) 3 = { owner := .nobody, closed := false } := by decide +kernel

theorem test_witness_OperationsComplete_outputs :
    ((wired .closed).brk.get 0).cfg.enabled = true ∧ ((wired .closed).brk.get 0).cfg.out52a = some 1 ∧
    ((wired .closed).brk.get 0).cfg.out52b = some 2 ∧ ((wired .closed).brk.get 1).cfg.enabled = false ∧
    (wired .closed).seq.commit = true ∧ patternNames (wired .closed).seq 0 = true ∧
    patternNames (wired .closed).seq 3 = false := by decide +kernel

/-- A trip that is tripped while it closes opens anew, and its full open time runs (R119). -/
theorem test_trip_free :
    let r := tripBreaker 0 500 (.trigger 3) (breaking .closing (some (operation false)))
    (r.1.brk.get 0).st = .opened ∧
    (r.1.brk.get 0).ops.map (fun e => e.replaced) = [some 0] ∧ r.2.length = 1 := by decide +kernel

theorem test_witness_CommandsMoveTheBreaker :
    (breaking .opened none).seq.st.inShot = true ∧ ((breaking .opened none).brk.get 0).cfg.enabled = true ∧
    ((breaking .opened none).brk.get 0).st = .opened ∧
    ((breaking .opened none).brk.get 0).cfg.trip = some 0 ∧
    ((breaking .opened none).inp.get 0).qual ≠ ((breaking .opened none).inp.get 0).cfg.activeHigh := by
  decide +kernel

/-- RUNNING with one entry loaded. -/
def triggered (a : Action) : State :=
  let entry : TrigEntry :=
    { enabled := true, event := .pps, filter := none, occurrence := 1, action := a }
  { shot .running with trg := ready.trg.set 0 { entry := some entry, count := 0 } }

/-- RUNNING with two entries for PPS. -/
def triggeredTwice (a b : Action) : State :=
  let entry (x : Action) : TrigEntry :=
    { enabled := true, event := .pps, filter := none, occurrence := 0, action := x }
  { shot .running with
    trg := (ready.trg.set 3 { entry := some (entry a), count := 0 }).set 9 { entry := some (entry b), count := 4 } }

/-- The filter of an entry is compared with the state that a STATE_EXIT leaves, and otherwise with the state
in force (R88). -/
theorem test_matching :
    let entry (k : EventKind) (f : Option StateIdx) (enabled : Bool) : TrigEntry :=
      { enabled := enabled, event := k, filter := f, occurrence := 0, action := .mark }
    let event (k : EventKind) : Event := { kind := k, time := 7, routed := 7 }
    let q := (shot .running).seq
    (entry .pps (some 0) true).accepts q (event .pps) = true ∧
    (entry .pps (some 1) true).accepts q (event .pps) = false ∧
    (entry .pps none false).accepts q (event .pps) = false ∧
    (entry (.stateExit 5) (some 5) true).accepts q (event (.stateExit 5)) = true ∧
    (entry (.stateExit 5) (some 0) true).accepts q (event (.stateExit 5)) = false ∧
    (entry (.stateExit 5) none true).accepts q (event (.stateExit 4)) = false := by decide +kernel

theorem test_witness_EventsFireTheirEntries :
    let e : Event := { kind := .pps, time := 7, routed := 7 }
    let s := triggeredTwice (.goto 0) .endShot
    s.seq.st.inShot = true ∧ ready.seq.st.inShot = false ∧ s.seq.inForce = some 0 ∧
    ([3, 9] : List TrigIdx).Pairwise (· < ·) ∧
    ((List.finRange 32).filter fun i => match (s.trg.get i).entry with
      | some t => t.accepts s.seq e
      | none => false) = [3, 9] ∧ (triggered .mark).seq.st.inShot = true ∧
    (ramping.seq.record 0).ramp = some ramp ∧ ramp.chans.get 0 = true := by decide +kernel

/-- Two entries match one event: the GOTO of the lower index is offered, and END_SHOT after it is
superseded; both are logged in index order (R88, R92). -/
theorem test_first_of_two_is_offered :
    let u := route { kind := .pps, time := 7, routed := 7 } (triggeredTwice (.goto 0) .endShot)
    u.seq.st = .running ∧ u.seq.pend.map (fun q => q.cause) = some (.trigger 3) ∧
    u.rep.fill.log = [{ entry := 3, time := 7, superseded := false },
                      { entry := 9, time := 7, superseded := true }] ∧
    (u.trg.get 9).count = 5 := by decide +kernel

/-- A MARK records the routing time, the state in force, the steps of the ramp and its live value
(R30, R95). -/
theorem test_mark :
    let u := takeMark { kind := .pps, time := 7, routed := 9 } ramping
    u.rep.fill.marks = [{ time := 9, state := 0, step := 0, live := some 0 }] := by decide +kernel

/-- A firing GOTO becomes the pending transition and is logged (R25, R90). -/
theorem test_goto_fires :
    let u := route { kind := .pps, time := 7, routed := 7 } (triggered (.goto 0))
    u.seq.pend.map (fun q => q.cause) = some (.trigger 0) ∧
    u.rep.fill.log = [{ entry := 0, time := 7, superseded := false }] ∧ (u.trg.get 0).count = 1 := by
  decide +kernel

theorem test_witness_EveryStepKeepsTheInputsTimeBaseAndHeat :
    SyncAgrees { latest := some 5, sync := .locked, glitch := false } ∧
    InputAgrees { Input.initial with
      raw := true, window := some { opened := 0, ends := 1000, counted := false } } ∧
    InputAgrees { Input.initial with raw := true, chatter := true, held := false } := by
  refine ⟨?_, ⟨?_, ?_⟩, ⟨?_, ?_⟩⟩
  · simp [SyncAgrees]
  · decide
  · decide
  · decide
  · decide

theorem test_witness_EveryStepKeepsTheSequencerInAgreement :
    SequencerAgrees (shot .running).seq ∧ NumbersDistinct (shot .running) := by
  refine ⟨⟨?_, ?_, ?_, ?_, ?_, ?_, ?_⟩, ⟨⟨?_, ?_⟩, ?_, ?_⟩⟩ <;> decide +kernel

theorem test_witness_EveryStepKeepsOutletsSafeAndListsBounded :
    OutletsSafe (shot .running) ∧ ListsBounded reported := by
  refine ⟨by constructor <;> decide +kernel, ⟨?_, ?_, by decide +kernel⟩⟩
  · constructor <;> decide +kernel
  · intro h m
    have e : h = held 1 true ∨ h = held 2 false := by simpa [reported] using m
    rcases e with rfl | rfl <;> constructor <;> decide +kernel

theorem test_witness_EveryStepKeepsTheLinkBounded :
    LinkBounded (linked [sent .reply, sent .reply, sent .busy] []) := by
  constructor <;> decide +kernel

theorem test_witness_EveryStepKeepsBreakersAndOutputsInAgreement :
    let s := (breaking .opened none).refreshOutputs
    BreakersAgree s ∧ OutputsAgree s := by
  have none_op : ∀ b, ((breaking .opened none).refreshOutputs.brk.get b).op = none := by decide +kernel
  refine ⟨⟨fun b => ⟨?_, ?_, ?_⟩, ?_⟩, ?_⟩
  · revert b; decide +kernel
  · intro op h
    rw [none_op b] at h
    cases h
  · revert b; decide +kernel
  · decide +kernel
  · unfold OutputsAgree; decide +kernel

end Sys2Proof.Tests
end

section
/-! PROOFS. CLRS (R11): an accepted edit behind the link that takes it at once (R9), the effect of CLRS on
the blocks it clears, and the outputs once no sequence is committed (R16, R128). -/

namespace Sys2Proof.Machine

section
variable (s : State)

/-! ## What an accepted edit leaves (R9, R16) -/

/-- With no committed sequence an output has its breaker as owner, or nobody (R16, R128, R129). -/
theorem outputNow_of_uncommitted (h : s.seq.commit = false) (o : BoutId) :
    outputNow s o = match breakerDrive s o with
      | some level => { owner := .breaker, closed := level }
      | none => { owner := .nobody, closed := false } := by
  unfold outputNow
  cases breakerDrive s o with
  | some level => rfl
  | none => simp [h]

theorem State.withdraw_out (o : BoutId) :
    s.withdraw.out.get o = match breakerDrive s o with
      | some level => { owner := .breaker, closed := level }
      | none => { owner := .nobody, closed := false } :=
  (State.refreshOutputs_out _ o).trans (outputNow_of_uncommitted _ rfl o)

/-- In EMPTY and READY an editing message with operands in range takes its effect (R9). -/
theorem editing_accepted {α : Type} (a : α) (effect : α → State → State)
    (h : s.seq.st.editable = true) : editing (some a) effect s = ((effect a s).withdraw, [0x00]) := by
  simp [editing, done, Status.code, h]

/-- The withdrawal leaves the link alone, so it does not see the queue that holds its request. -/
theorem State.withdraw_queued (f : Frame) : (s.queued f).withdraw = s.withdraw.queued f := rfl

/-! ## The effect of CLRS (R11) -/

theorem clearAll_queued (f : Frame) : clearAll (s.queued f) = (clearAll s).queued f := rfl

theorem clearAll_trg (i : TrigIdx) :
    (clearAll s).trg.get i = (s.trg.get i).cleared := Bank.get_map ..

theorem clearAll_tmr (m : TimerId) : (clearAll s).tmr.get m =
    { s.tmr.get m with cfg := { (s.tmr.get m).cfg with enabled := false } } := Bank.get_map ..

end

/-- A CLRS that the link takes at once in EMPTY or READY is answered OK, and what it leaves is everything
cleared and the edit's withdrawal of the committed sequence (R9, R11). -/
theorem LinkFree.exec_clrs {s : State} (h : LinkFree s) (he : s.seq.st.editable = true) (t : Time)
    (tag : Byte) : exec (.clrs t tag []) s =
      .next ((clearAll (s.advance t)).withdraw.replied { kind := 0x11, tag, body := [] } [0x00]) := by
  let f : Frame := { kind := 0x11, tag, body := [] }
  have hm : message 0x11 [] ((s.advance t).queued f) =
      ((clearAll (s.advance t)).withdraw.queued f, .reply [0x00]) := by
    change atOnce (clearSequence ((s.advance t).queued f)) = _
    have ha : ((s.advance t).queued f).seq.st.editable = true := he
    rw [clearSequence, editing_accepted _ _ _ ha, clearAll_queued, State.withdraw_queued, atOnce]
  exact h.answered t tag 0x11 [] _ [0x00] (by decide) (by decide) h.noRequest hm

/-- Settles O24: the state behind the reply is named, and each clause is read off it. -/
theorem clrsClears : Obligations.ClrsClears := by
  intro t tag s h he
  refine ⟨(clearAll (s.advance t)).withdraw, h.exec_clrs he t tag,
    fun i => Bank.get_fill none i, rfl, rfl, rfl, fun i => ?trigger, fun m => ?timer,
    fun i => Bank.get_fill none i, fun i => Bank.get_fill none i, fun o => ?output,
    rfl, rfl, rfl, rfl, rfl, rfl, rfl, rfl, rfl, rfl, rfl, rfl, rfl, rfl⟩
  case trigger =>
    have hi := clearAll_trg (s.advance t) i
    exact ⟨congrArg TrigSlot.count hi, congrArg TrigSlot.entry hi⟩
  case timer => exact clearAll_tmr (s.advance t) m
  case output => exact State.withdraw_out (clearAll (s.advance t)) o

end Sys2Proof.Machine
end

section
/-! PROOFS. A record as the list of its fields (R190): what stands at an offset is read off the list. -/

namespace Sys2Proof.Machine

/-! ## The value of a field (R190) -/

theorem ofBytes_concat (bs : List Byte) (b : Byte) : ofBytes (bs ++ [b]) = ofBytes bs * 256 + b.toNat := by
  simp [ofBytes]

/-- A field of `n` bytes carries its value modulo 256^n (R190). -/
theorem ofBytes_toBytes (n v : Nat) : ofBytes (toBytes n v) = v % 256 ^ n := by
  induction n generalizing v with
  | zero => simp [toBytes, ofBytes, Nat.mod_one]
  | succ n ih =>
    have split : v % 256 ^ (n + 1) = v % 256 + 256 * (v / 256 % 256 ^ n) := by
      rw [Nat.pow_succ', Nat.mod_mul]
    rw [toBytes, ofBytes_concat, ih, BitVec.toNat_ofNat, split]
    omega

/-- The first byte of a body as a field. -/
@[simp] theorem field_singleton (b : Byte) : field [b] 0 1 = b.toNat := by simp [field, ofBytes]

/-! ## Records as lists of fields -/

/-- The bytes of fields one behind the other; a field is its width and its value. -/
def fieldsBytes : List (Nat × Nat) → List Byte
  | [] => []
  | (n, v) :: rest => toBytes n v ++ fieldsBytes rest

/-- The field that begins at an offset. -/
def fieldAt : List (Nat × Nat) → Nat → Option (Nat × Nat)
  | [], _ => none
  | (n, v) :: rest, o =>
    if o = 0 then some (n, v) else if n ≤ o then fieldAt rest (o - n) else none

/-- A flag as a field. -/
def flagField (f : Bool) : Nat × Nat := (1, if f then 1 else 0)

theorem fieldsBytes_append (a b : List (Nat × Nat)) :
    fieldsBytes (a ++ b) = fieldsBytes a ++ fieldsBytes b := by
  induction a with
  | nil => rfl
  | cons f rest ih => simp [fieldsBytes, ih]

theorem length_fieldsBytes (fields : List (Nat × Nat)) :
    (fieldsBytes fields).length = (fields.map Prod.fst).sum := by
  induction fields with
  | nil => rfl
  | cons f rest ih => simp [fieldsBytes, ih]

@[simp] theorem toBytes_flagField (f : Bool) : toBytes (flagField f).1 (flagField f).2 = flagByte f :=
  (flagByte_eq f).symm

/-- The bytes carry each field at its offset: past the fields before it. -/
theorem carries_of_fieldAt {fields : List (Nat × Nat)} {o n v : Nat}
    (h : fieldAt fields o = some (n, v)) : Carries (fieldsBytes fields) o n v := by
  induction fields generalizing o with
  | nil => cases h
  | cons f rest ih =>
    unfold fieldAt at h
    split at h
    case isTrue first =>
      subst first
      cases h
      exact Carries.first ..
    case isFalse =>
      split at h
      case isTrue past => exact Carries.past _ (by simpa using past) (by simpa using ih h)
      case isFalse => cases h

/-- A flag of the list is the flag of what its Boolean decides. -/
theorem carriesFlag_of_fieldAt {fields : List (Nat × Nat)} {o : Nat} {p : Prop} (x : Bool)
    (h : fieldAt fields o = some (flagField x)) (e : p ↔ x = true) :
    CarriesFlag (fieldsBytes fields) o p :=
  Carries.flag x (carries_of_fieldAt h) e

end Sys2Proof.Machine
end

section
/-! PROOFS. RCAL, GINP and LSTR (R83, R168, R188): the replies of GINP and LSTR in the layouts of R191,
what each of the three blocks answers, and the link that sends its answer. -/

namespace Sys2Proof.Machine

/-! ## The reply of GINP (R83, R191) -/

/-- The debounce window as fields; what is absent is 0. -/
def windowFields (w : Option Window) : List (Nat × Nat) :=
  [flagField w.isSome, (6, w.elim 0 fun w => w.opened.toNat), (6, w.elim 0 fun w => w.ends.toNat)]

/-- The learning status as fields; what is absent is 0. -/
def learningFields (l : Option Learning) : List (Nat × Nat) :=
  [flagField l.isSome, (1, l.elim 0 fun l => l.readings)]

/-- The learning record as fields; what is absent is 0. -/
def learnRecordFields (r : Option LearnRecord) : List (Nat × Nat) :=
  [flagField r.isSome, flagField (r.elim false fun r => r.full), (2, r.elim 0 fun r => r.vOn),
   (1, r.elim 0 fun r => r.code), flagField (r.elim false fun r => !r.set)]

/-- The body of an OK reply to GINP as fields, the status first. -/
def inputFields (i : Input) : List (Nat × Nat) :=
  [(1, 0), flagField i.cfg.wet, (1, i.cfg.code), (1, i.cfg.debounce), flagField i.cfg.activeHigh,
   (1, i.cfg.limit), flagField i.raw, flagField i.qual, flagField i.isActive] ++
  windowFields i.window ++
  [flagField i.chatter, flagField (i.chatter && i.held), (2, i.count), (2, i.reading)] ++
  learningFields i.learn ++ learnRecordFields i.record ++
  [(2, i.bounces), (2, i.edges), (2, i.periods)]

theorem windowBytes_eq_fieldsBytes (w : Option Window) : windowBytes w = fieldsBytes (windowFields w) := by
  cases w with
  | none => rfl
  | some w => simp [windowBytes, windowFields, fieldsBytes]

theorem learningBytes_eq_fieldsBytes (l : Option Learning) :
    learningBytes l = fieldsBytes (learningFields l) := by
  cases l with
  | none => rfl
  | some l => simp [learningBytes, learningFields, fieldsBytes]

theorem recordBytes_eq_fieldsBytes (r : Option LearnRecord) :
    recordBytes r = fieldsBytes (learnRecordFields r) := by
  cases r with
  | none => rfl
  | some r => simp [recordBytes, learnRecordFields, fieldsBytes]

theorem inputStatus_eq_fieldsBytes (i : Input) :
    0x00 :: inputStatus i = fieldsBytes (inputFields i) := by
  simp only [inputStatus, inputFields, fieldsBytes_append, windowBytes_eq_fieldsBytes,
    learningBytes_eq_fieldsBytes, recordBytes_eq_fieldsBytes]
  simp [fieldsBytes, toBytes]

theorem inputFields_layout (i : Input) : InputLayout i (fieldsBytes (inputFields i)) where
  length := by
    simp [length_fieldsBytes, inputFields, windowFields, learningFields, learnRecordFields, flagField]
  status := carries_of_fieldAt rfl
  mode := carriesFlag_of_fieldAt i.cfg.wet rfl Iff.rfl
  code := carries_of_fieldAt rfl
  debounce := carries_of_fieldAt rfl
  activeLevel := carriesFlag_of_fieldAt i.cfg.activeHigh rfl Iff.rfl
  limit := carries_of_fieldAt rfl
  raw := carriesFlag_of_fieldAt i.raw rfl Iff.rfl
  qual := carriesFlag_of_fieldAt i.qual rfl Iff.rfl
  active := carriesFlag_of_fieldAt i.isActive rfl (by simp [Input.isActive])
  windowPresent := carriesFlag_of_fieldAt i.window.isSome rfl Option.isSome_iff_ne_none.symm
  window w h := by
    constructor <;> exact carries_of_fieldAt (by rw [inputFields, h]; rfl)
  noWindow h := by
    constructor <;> exact carries_of_fieldAt (by rw [inputFields, h]; rfl)
  chatter := carriesFlag_of_fieldAt i.chatter rfl Iff.rfl
  held := carriesFlag_of_fieldAt (i.chatter && i.held) rfl (by simp)
  count := carries_of_fieldAt rfl
  reading := carries_of_fieldAt rfl
  learning := carriesFlag_of_fieldAt i.learn.isSome rfl Option.isSome_iff_ne_none.symm
  readings l h := carries_of_fieldAt (by rw [inputFields, h]; rfl)
  noReadings h := carries_of_fieldAt (by rw [inputFields, h]; rfl)
  recordPresent := carriesFlag_of_fieldAt i.record.isSome rfl Option.isSome_iff_ne_none.symm
  record r h := by
    refine ⟨carriesFlag_of_fieldAt r.full ?_ Iff.rfl, carries_of_fieldAt ?_, carries_of_fieldAt ?_,
      carriesFlag_of_fieldAt (!r.set) ?_ (by simp)⟩ <;> (rw [inputFields, h]; rfl)
  noRecord h := by
    refine ⟨?_, ?_, ?_, ?_⟩ <;> exact carries_of_fieldAt (by rw [inputFields, h]; rfl)
  bounces := carries_of_fieldAt rfl
  edges := carries_of_fieldAt rfl
  periods := carries_of_fieldAt rfl

/-- The reply of GINP stands in the layout of R191 (R83). -/
theorem inputStatus_layout (i : Input) : InputLayout i (0x00 :: inputStatus i) :=
  inputStatus_eq_fieldsBytes i ▸ inputFields_layout i

/-! ## The entries of LSTR (R168, R191) -/

/-- An entry of LSTR as fields. -/
def listFields (h : HeldReport) : List (Nat × Nat) :=
  [(2, h.report.shotNo), (1, h.report.endCode.1), (1, h.report.endCode.2), flagField h.unread,
   (1, h.report.passes), (1, h.report.fails)]

theorem listBytes_eq_fieldsBytes (h : HeldReport) : listBytes h = fieldsBytes (listFields h) := by
  simp [listBytes, listFields, fieldsBytes]

theorem EndReason.coded_code (e : EndReason) : e.coded e.code.1 e.code.2 := by
  cases e with
  | hard c => cases c <;> exact ⟨rfl, rfl⟩
  | _ => exact ⟨rfl, rfl⟩

theorem Verdict.passes_eq (v : Verdict) : v.passes = decide (v = .pass ∨ v = .passNoTrip) := by
  cases v <;> rfl

theorem Verdict.fails_eq (v : Verdict) : v.fails =
    decide (v = .failEarly ∨ v = .failLate ∨ v = .failUnexpectedTrip ∨ v = .failNoTrip) := by
  cases v <;> rfl

theorem listFields_layout (h : HeldReport) : ListLayout h (fieldsBytes (listFields h)) where
  length := by simp [length_fieldsBytes, listFields, flagField]
  shotNo := carries_of_fieldAt rfl
  endReason e he := by
    have code : h.report.endCode = e.code := by rw [Report.endCode, he]
    exact ⟨e.code.1, e.code.2, carries_of_fieldAt (by rw [listFields, code]; rfl),
      carries_of_fieldAt (by rw [listFields, code]; rfl), e.coded_code⟩
  unread := carriesFlag_of_fieldAt h.unread rfl Iff.rfl
  passes := by
    simp only [← Verdict.passes_eq]
    exact carries_of_fieldAt rfl
  fails := by
    simp only [← Verdict.fails_eq]
    exact carries_of_fieldAt rfl

/-- An entry of LSTR stands in the layout of R191 (R168). -/
theorem listBytes_layout (h : HeldReport) : ListLayout h (listBytes h) :=
  listBytes_eq_fieldsBytes h ▸ listFields_layout h

/-- The entries of LSTR are 7 bytes each. -/
theorem flatMap_listBytes_length (l : List HeldReport) : (l.flatMap listBytes).length = 7 * l.length := by
  induction l with
  | nil => rfl
  | cons h rest ih =>
    have entry := (listBytes_layout h).length
    simp only [List.flatMap_cons, List.length_append, List.length_cons]
    omega

/-! ## Outlets and inputs by their byte (R191) -/

@[simp] theorem index0_val {n : Nat} (k : Fin n) : index0 n k.val = some k := by simp [index0]

theorem index0_of_le {n v : Nat} (h : n ≤ v) : index0 n v = none := by simp [index0, h]

@[simp] theorem index1_succ {n : Nat} (k : Fin n) : index1 n (k.val + 1) = some k := by simp [index1]

theorem index1_eq_none {n v : Nat} (h : v = 0 ∨ n < v) : index1 n v = none := by
  rw [index1, ite_eq_left_iff]
  intro hv
  exact index0_of_le (by omega)

/-! ## What the three blocks answer -/

section
variable {b : Byte} (s : State)

/-- RCAL answers with the working copy of the outlet and its check status (R188). -/
theorem readCalibration_outlet {o : Outlet} (h : b.toNat = o.val) : readCalibration [b] s =
    results (toBytes 4 (s.cal.working.get o).gain ++ signedBytes 2 (s.cal.working.get o).offset ++
      toBytes 2 (s.cal.working.get o).rating ++ toBytes 6 (s.cal.working.get o).capacity ++
      toBytes 1 (s.cal.status.get o).code) s := by
  simp [readCalibration, readOutlet, h]

theorem readCalibration_refused (h : 10 ≤ b.toNat) :
    readCalibration [b] s = refused .paramRange s := by
  simp [readCalibration, readOutlet, index0_of_le h]

/-- GINP answers with the status of the input (R83). -/
theorem getInput_input {k : InputId} (h : b.toNat = k.val + 1) :
    getInput [b] s = results (inputStatus (s.inp.get k)) s := by
  simp [getInput, readInput, h]

theorem getInput_refused (h : b.toNat = 0 ∨ 11 ≤ b.toNat) :
    getInput [b] s = refused .paramRange s := by
  simp [getInput, readInput, index1_eq_none h]

end

/-! ## The replies behind the link (R176 to R178) -/

section
variable {s : State} (h : LinkFree s) (t : Time) (tag b : Byte) {reply : List Byte}
include h

/-- RCAL looks at the calibration alone: what its block answers there is the reply (R188). -/
theorem LinkFree.exec_rcal
    (hr : ∀ u : State, u.cal = s.cal → readCalibration [b] u = (u, reply)) :
    exec (.rcal t tag [b]) s = .next ((s.advance t).replied { kind := 0x06, tag, body := [b] } reply) :=
  h.answered t tag 0x06 [b] (s.advance t) reply (by decide) rfl h.noRequest
    (congrArg atOnce (hr ((s.advance t).queued _) rfl))

/-- GINP looks at the inputs alone (R83). -/
theorem LinkFree.exec_ginp (hr : ∀ u : State, u.inp = s.inp → getInput [b] u = (u, reply)) :
    exec (.ginp t tag [b]) s = .next ((s.advance t).replied { kind := 0x23, tag, body := [b] } reply) :=
  h.answered t tag 0x23 [b] (s.advance t) reply (by decide) rfl h.noRequest
    (congrArg atOnce (hr ((s.advance t).queued _) rfl))

/-- LSTR looks at the held reports alone (R168). -/
theorem LinkFree.exec_lstr (hr : ∀ u : State, u.rep = s.rep → listReports u = (u, reply)) :
    exec (.lstr t tag []) s = .next ((s.advance t).replied { kind := 0x50, tag, body := [] } reply) :=
  h.answered t tag 0x50 [] (s.advance t) reply (by decide) rfl h.noRequest
    (congrArg atOnce (hr ((s.advance t).queued _) rfl))

end

/-- Settles O12: the answer of each block, sent by a link that takes the request at once. -/
theorem readingRepliesChangeNothing : Obligations.ReadingRepliesChangeNothing := by
  intro t tag b s h
  refine ⟨fun o ho => ?outlet, fun hb => ?noOutlet, fun k hk => ⟨?input, inputStatus_layout _⟩,
    fun hb => ?noInput, ⟨?list, flatMap_listBytes_length _, fun r _ => listBytes_layout r⟩,
    fun n v => ⟨toBytes_length n v, ofBytes_toBytes n v⟩⟩
  case outlet =>
    refine h.exec_rcal t tag b fun u hu => ?_
    rw [readCalibration_outlet u ho, hu]
    cases s.cal.status.get o <;> simp [results, Status.code, CalStatus.code, toBytes]
  case noOutlet => exact h.exec_rcal t tag b fun u _ => readCalibration_refused u hb
  case input =>
    refine h.exec_ginp t tag b fun u hu => ?_
    rw [getInput_input u hk, hu]
    rfl
  case noInput => exact h.exec_ginp t tag b fun u _ => getInput_refused u hb
  case list =>
    refine h.exec_lstr t tag fun u hu => ?_
    rw [listReports, hu]
    rfl

end Sys2Proof.Machine
end

section
/-! PROOFS. The link's bounds (R176, R177, R179, R186): the kinds of the frames that stand in the transmit
order decide them, and every operation on the order leaves a sublist of what stood there and what joined. -/

namespace Sys2Proof.Machine

/-! ## The kinds of the frames in the transmit order (R177) -/

/-- The kinds of the frames of the transmit order, the one being sent first. -/
def Link.kinds (l : Link) : List TxKind := l.order.map TxFrame.what

/-- A reply to an executed request. -/
def TxKind.isReply (k : TxKind) : Bool := k == .reply || k == .resetReply

theorem Link.replies_eq (l : Link) : l.replies = l.kinds.countP TxKind.isReply := by
  rw [Link.kinds, List.countP_map, List.countP_eq_length_filter]
  rfl

theorem Link.busies_eq (l : Link) : l.busies = l.kinds.count .busy := by
  rw [Link.kinds, List.count, List.countP_map, List.countP_eq_length_filter]
  rfl

theorem Link.notes_eq (l : Link) : l.notes = l.kinds.count .note := by
  rw [Link.kinds, List.count, List.countP_map, List.countP_eq_length_filter]
  rfl

/-- Taking up the first frame drops frames from the front and forms one (R181). -/
theorem beginHead_kinds (l : Link) (order : List TxFrame) :
    ((beginHead l order).map TxFrame.what).Sublist (order.map TxFrame.what) := by
  induction order with
  | nil => exact List.Sublist.refl _
  | cons f rest ih =>
    unfold beginHead
    split
    · exact List.Sublist.refl _
    · split
      · exact List.Sublist.refl _
      · exact ih.cons _

theorem Link.transmit_kinds (l : Link) : l.transmit.kinds.Sublist l.kinds := beginHead_kinds l l.order

/-- A frame that joins adds its kind at the tail at most (R177). -/
theorem Link.join_kinds (l : Link) (f : TxFrame) : (l.join f).kinds.Sublist (l.kinds ++ [f.what]) := by
  have h := ({ l with order := l.order ++ [f] }).transmit_kinds
  simpa only [Link.join, Link.kinds, List.map_append, List.map_cons, List.map_nil] using h

/-! ## The bounds, said of the kinds, the queue and the two holds -/

/-- The bounds of the link for an order of these kinds, a queue, and a reset or a write that holds it. -/
structure OrderBounded (kinds : List TxKind) (queue : List Frame) (resetting : Bool)
    (write : Option CalWrite) : Prop where
  few : queue.length ≤ 2
  replies : kinds.countP TxKind.isReply ≤ 2
  busies : kinds.count .busy ≤ 2
  notes : kinds.count .note ≤ 1
  awaited : resetting = true → queue = [] ∧ write = none
  resets : TxKind.resetReply ∈ kinds → resetting = true
  writing : write ≠ none → queue ≠ [] ∧ kinds.countP TxKind.isReply ≤ 1

theorem linkBounded_iff (s : State) : LinkBounded s ↔
    OrderBounded s.link.kinds s.link.queue s.link.resetting s.cal.write := by
  have resets : (∀ f ∈ s.link.order, f.what = .resetReply → s.link.resetting = true) ↔
      (TxKind.resetReply ∈ s.link.kinds → s.link.resetting = true) := by
    simp [Link.kinds]
  constructor
  · rintro ⟨hq, hr, hb, hn, hh, hs, hw⟩
    rw [Link.replies_eq] at hr hw
    exact ⟨hq, hr, s.link.busies_eq ▸ hb, s.link.notes_eq ▸ hn, hh, resets.1 hs, hw⟩
  · rintro ⟨hq, hr, hb, hn, hh, hs, hw⟩
    rw [← Link.replies_eq] at hr hw
    exact ⟨hq, hr, s.link.busies_eq ▸ hb, s.link.notes_eq ▸ hn, hh, resets.2 hs, hw⟩

namespace OrderBounded

variable {kinds kinds' : List TxKind} {queue : List Frame} {resetting : Bool} {write : Option CalWrite}

/-- Frames that leave the order keep the bounds. -/
theorem sublist (h : OrderBounded kinds queue resetting write) (sub : kinds'.Sublist kinds) :
    OrderBounded kinds' queue resetting write where
  few := h.few
  replies := sub.countP_le.trans h.replies
  busies := (sub.count_le _).trans h.busies
  notes := (sub.count_le _).trans h.notes
  awaited := h.awaited
  resets m := h.resets (sub.subset m)
  writing w := ⟨(h.writing w).1, sub.countP_le.trans (h.writing w).2⟩

/-- A NOTE joins where none stands (R181). -/
theorem note (h : OrderBounded kinds queue resetting write) (free : TxKind.note ∉ kinds) :
    OrderBounded (kinds ++ [.note]) queue resetting write where
  few := h.few
  replies := by simpa [TxKind.isReply] using h.replies
  busies := by simpa using h.busies
  notes := by simp [List.count_eq_zero.2 free]
  awaited := h.awaited
  resets m := h.resets (by simpa using m)
  writing w := ⟨(h.writing w).1, by simpa [TxKind.isReply] using (h.writing w).2⟩

/-- A BUSY joins while fewer than two stand there (R177). -/
theorem busy (h : OrderBounded kinds queue resetting write) (room : kinds.count .busy < 2) :
    OrderBounded (kinds ++ [.busy]) queue resetting write where
  few := h.few
  replies := by simpa [TxKind.isReply] using h.replies
  busies := by simpa using room
  notes := by simpa using h.notes
  awaited := h.awaited
  resets m := h.resets (by simpa using m)
  writing w := ⟨(h.writing w).1, by simpa [TxKind.isReply] using (h.writing w).2⟩

/-- A reply joins while fewer than two stand there, and its request leaves the queue (R176). -/
theorem reply (h : OrderBounded kinds queue resetting none) (room : kinds.countP TxKind.isReply < 2) :
    OrderBounded (kinds ++ [.reply]) queue.tail resetting none where
  few := by have := h.few; simp; omega
  replies := by simpa [TxKind.isReply] using room
  busies := by simpa using h.busies
  notes := by simpa using h.notes
  awaited r := by simp [(h.awaited r).1]
  resets m := h.resets (by simpa using m)
  writing w := absurd rfl w

/-- The reply of ERST joins: the queue is emptied and the reset awaited (R186). -/
theorem reset (h : OrderBounded kinds queue resetting none) (room : kinds.countP TxKind.isReply < 2) :
    OrderBounded (kinds ++ [.resetReply]) [] true none where
  few := by simp
  replies := by simpa [TxKind.isReply] using room
  busies := by simpa using h.busies
  notes := by simpa using h.notes
  awaited _ := ⟨rfl, rfl⟩
  resets _ := rfl
  writing w := absurd rfl w

/-- A write begins while fewer than two replies stand in the order; its request stays (R179). -/
theorem beginWrite {w : CalWrite} (h : OrderBounded kinds queue resetting none) (awake : resetting = false)
    (holds : queue ≠ []) (room : kinds.countP TxKind.isReply < 2) :
    OrderBounded kinds queue resetting (some w) where
  few := h.few
  replies := h.replies
  busies := h.busies
  notes := h.notes
  awaited r := by simp [awake] at r
  resets := h.resets
  writing _ := ⟨holds, by omega⟩

/-- A write ends (R189). -/
theorem endWrite (h : OrderBounded kinds queue resetting write) :
    OrderBounded kinds queue resetting none where
  few := h.few
  replies := h.replies
  busies := h.busies
  notes := h.notes
  awaited r := ⟨(h.awaited r).1, rfl⟩
  resets := h.resets
  writing w := absurd rfl w

/-- A request joins the queue, no reset being awaited (R176). -/
theorem enqueue (h : OrderBounded kinds queue false write) (f : Frame) (room : queue.length < 2) :
    OrderBounded kinds (queue ++ [f]) false write where
  few := by simp; omega
  replies := h.replies
  busies := h.busies
  notes := h.notes
  awaited r := by simp at r
  resets := h.resets
  writing w := ⟨by simp, (h.writing w).2⟩

/-- An empty order and an empty queue. -/
theorem nil : OrderBounded [] [] false none := by constructor <;> simp

end OrderBounded

/-! ## Notices (R181) -/

/-- The bounds of the link of `l`, with the write that holds its queue. -/
def Link.Within (l : Link) (write : Option CalWrite) : Prop :=
  OrderBounded l.kinds l.queue l.resetting write

section
variable {l : Link} {write : Option CalWrite} (h : l.Within write)
include h

theorem Link.Within.transmit : l.transmit.Within write := OrderBounded.sublist h l.transmit_kinds

theorem Link.Within.dueNote : l.dueNote.Within write := by
  unfold Link.dueNote
  split
  case h_1 free =>
    have absent : TxKind.note ∉ l.kinds := by simpa [Link.kinds] using free
    exact OrderBounded.sublist (OrderBounded.note h absent) (l.join_kinds waitingNote)
  case h_2 => split <;> exact h

theorem Link.Within.raise (k : Notice) : (l.raise k).Within write := by
  have noted : ({ l with noticeSet := l.noticeSet.set k.bit true } : Link).Within write := h
  unfold Link.raise
  split
  · exact h
  · dsimp only
    split
    · exact noted.dueNote
    · exact noted

theorem Link.Within.setMask (mask : Bank Bool 12) : (l.setMask mask).Within write := by
  have masked : ({ l with mask } : Link).Within write := h
  unfold Link.setMask
  dsimp only
  split
  · exact masked.dueNote
  · exact masked

end

theorem linkBounded_iff_within (s : State) : LinkBounded s ↔ s.link.Within s.cal.write :=
  linkBounded_iff s

/-- The link after a reset holds its NOTE alone (R172, R186). -/
theorem Link.restart_within (strap : Strap) (mask : Bank Bool 12) :
    (Link.restart strap mask).Within none := by
  unfold Link.restart
  dsimp only
  split
  · exact Link.Within.dueNote OrderBounded.nil
  · exact OrderBounded.nil

end Sys2Proof.Machine
end

section
/-! PROOFS. What the messages and the events of a shot are made of: a property that each of these pieces
keeps is kept by every message and by every event outside the link and the resets. -/

namespace Sys2Proof.Machine

/-! ## The length limit by the sequencer state (R31) -/

theorem lengthLimit_running {s : State} (running : s.seq.st = .running) (d : Time)
    (hd : d = after s.seq.t0 Config.reportLimit) :
    lengthLimit s = if workWaits s d then s else (s.advance d).softStop .lengthLimit d := by
  unfold lengthLimit
  rw [running]
  subst hd
  with_reducible rfl

theorem lengthLimit_of_not {s : State} (h : s.seq.st ≠ .running) : lengthLimit s = s := by
  unfold lengthLimit
  split
  case h_1 running => exact absurd running h
  all_goals rfl

theorem lengthLimit_cases (s : State) : lengthLimit s = s ∨
    s.seq.st = .running ∧ ∃ d, lengthLimit s = (s.advance d).softStop .lengthLimit d := by
  by_cases running : s.seq.st = .running
  · obtain ⟨d, hd⟩ : ∃ d, d = after s.seq.t0 Config.reportLimit := ⟨_, rfl⟩
    rw [lengthLimit_running running d hd]
    split
    · exact .inl rfl
    · exact .inr ⟨running, d, rfl⟩
  · exact .inl (lengthLimit_of_not running)
/-! ## The pieces -/

/-- A shot at its start, before its auto-started timers and its events (R22). -/
def begunShot (t0 : Time) (src : StartSource) (s : State) : State :=
  let s := clearShot (beginReport t0 src s)
  let s := { s with seq := { s.seq with st := .running },
                    clock := { s.clock with anchor := some t0, nextTick := t0 } }
  enterState 0 (s.seq.record 0).rule.reset .start false false t0 s

theorem startShot_eq (t0 : Time) (src : StartSource) (s : State) : startShot t0 src s =
    route { kind := .stateEnter 0, time := t0, routed := t0 }
      (route { kind := .shotStart, time := t0, routed := t0 }
        ((autoStart t0 (begunShot t0 src s)).raise .shotStarted)) := rfl

theorem endStopping_keeps {P : State → Prop} {s : State} {t : Time} (h : P s)
    (tail : s.seq.st = .stopping → P (s.enterTail t)) : P (endStopping t s) := by
  unfold endStopping
  split
  case h_1 stopping =>
    split
    · exact tail stopping
    · exact h
  all_goals exact h

/-- A property that each piece of an event keeps, with what the piece finds. -/
structure KeptByPieces (P : State → Prop) : Prop extends KeptByActions P where
  now : ∀ s t, P s → P { s with now := t }
  clock : ∀ s c, P s → P { s with clock := c }
  raise : ∀ s k, P s → P (s.raise k)
  inputs : ∀ s i, P s → P { s with inp := i }
  timers : ∀ s m, P s → P { s with tmr := m }
  timeBase : ∀ s b, P s → P { s with tb := b }
  supervision : ∀ s v, P s → P { s with sup := v }
  outlets : ∀ s (y : Synth), y.dac = s.syn.dac → P s → P { s with syn := y }
  sample : ∀ s t, P s → P (emitSamples (endStopping t s))
  flag : ∀ s f, P s → P (s.flag f)
  startDue : ∀ s n d, P s → s.seq.st = .armed →
    P { s with seq := { s.seq with ppsCount := n, startDue := d } }
  endArm : ∀ s why, P s → s.seq.st = .armed → P (s.endArm why)
  begun : ∀ s t0 src, P s → s.seq.st = .armed → P (begunShot t0 src s)
  request : ∀ s target c t, P s → s.seq.st = .running → P (s.request target c t)
  endWait : ∀ s p, P s → s.seq.st = .running → P { s with seq := { s.seq with pend := some p } }
  noDuration : ∀ s, P s → P { s with seq := { s.seq with durationDue := none } }
  superseded : ∀ s, P s → P (markSuperseded s)
  dwell : ∀ s n d, P s → s.seq.st = .running →
    P { s with seq := { s.seq with rampSteps := n, dwellDue := d } }
  enter : ∀ s i reset c a p tick, P s → s.seq.st = .running → P (enterState i reset c a p tick s)
  softStop : ∀ s r t, P s → s.seq.st = .running → P (s.softStop r t)
  hardStop : ∀ s c t, P s → P (s.hardStop c t)
  addFurther : ∀ s c, P s → s.seq.st = .tail → P (s.addFurther c)
  cut : ∀ s t, P s → s.seq.st = .stopping → P (cutAt t s)
  finalize : ∀ s t, P s → s.seq.st = .tail → P (finalize t s)
  opened : ∀ s b op, P s → s.seq.st.inShot = true → (s.brk.get b).op = some op → op.opens = true →
    P (completeOpen b op s)
  closed : ∀ s b op, P s → s.seq.st.inShot = true → (s.brk.get b).op = some op → op.opens = false →
    P (completeClose b op s)

namespace KeptByPieces

variable {P : State → Prop} (k : KeptByPieces P) {s : State} (h : P s)

include k h

theorem advance (t : Time) : P (s.advance t) := k.now _ _ h

theorem routed (e : Event) : P (route e s) := k.toKeptByActions.route e h

theorem rejectRises (r : RejectSource) : P (s.rejectRises r) := by
  unfold State.rejectRises
  split
  case h_1 armed _ =>
    split
    · exact k.raise _ _ (k.endArm _ _ h armed)
    · exact h
  case h_2 => exact h

theorem autoStarted (t0 : Time) : P (autoStart t0 s) := k.timers _ _ h

/-! ## The sample tick -/

theorem resolved (t : Time) : P (resolveTick t s) := by
  unfold resolveTick
  split
  · exact k.outlets s { s.syn with chans := s.syn.chans.map (Chan.resolve t) } rfl h
  · exact h

theorem sampleTick : P (sampleTick s) := by
  unfold Machine.sampleTick
  split
  · exact h
  · exact k.clock _ _ (k.sample _ _ (k.resolved (k.advance h _) _))

/-! ## The sequencer's own events -/

theorem shotStart : P (shotStart s) := by
  unfold Machine.shotStart
  split
  case h_1 t0 src armed _ _ =>
    split
    · exact h
    · rw [startShot_eq]
      exact k.routed (k.routed (k.raise _ _ (k.autoStarted (k.begun _ _ _ (k.advance h _) armed) _)) _) _
  case h_2 => exact h

theorem durationExpiry : P (durationExpiry s) := by
  unfold Machine.durationExpiry
  split
  case h_1 d running _ =>
    split
    · exact h
    · have off := k.noDuration _ (k.advance h d)
      unfold expire
      dsimp only
      split
      · exact k.superseded _ off
      · split
        · exact k.request _ _ _ _ off running
        · exact k.softStop _ _ _ off running
  case h_2 => exact h

theorem stepped (p : Ramp) : P (stepChannels p s) := by
  unfold stepChannels
  dsimp only
  refine k.flag _ _ (k.outlets s _ ?_ h)
  cases p.quantity <;> rfl

theorem rampStep : P (rampStep s) := by
  unfold Machine.rampStep
  split
  case h_1 d p running _ _ =>
    have steps := k.stepped (k.advance h d) p
    have same : (stepChannels p (s.advance d)).seq.st = .running := by
      simpa [stepChannels] using running
    unfold rampStepAt
    dsimp only
    split
    · exact k.routed (k.routed (k.dwell _ _ _ steps same) _) _
    · exact k.routed (k.dwell _ _ _ steps same) _
  case h_2 => exact h

theorem takeEntry (running : s.seq.st = .running) (p : Pending) (tick : Time) (a m : Bool) :
    P (takeEntry p tick a m s) :=
  k.routed (k.routed (k.enter _ _ _ _ _ _ _ h running) _) _

theorem transitionEntry : P (transitionEntry s) := by
  unfold Machine.transitionEntry
  split
  case h_1 p running _ =>
    split
    · split
      · exact k.takeEntry (k.advance h _) running _ _ _ _
      · exact h
    · exact h
  case h_2 => exact h

theorem lengthLimit : P (lengthLimit s) := by
  rcases lengthLimit_cases s with same | ⟨running, d, stopped⟩
  · rw [same]; exact h
  · rw [stopped]; exact k.softStop _ _ _ (k.advance h d) running

theorem forcedCut : P (forcedCut s) := by
  unfold Machine.forcedCut
  split
  case h_1 stopping =>
    split
    · exact k.cut _ _ (k.advance h _) stopping
    · exact h
  all_goals exact h

theorem tailExpiry : P (tailExpiry s) := by
  unfold Machine.tailExpiry
  split
  case h_1 inTail _ => exact k.finalize _ _ (k.advance h _) inTail
  case h_2 => exact h

/-! ## The inputs -/

theorem rawTransition (j : InputId) (r : Time) : P (rawTransition j r s) := by
  have moved := k.inputs s (s.inp.set j ((s.inp.get j).transition s.seq.st.inShot
    (atOrAfter s.clock.nextChatter r) r)) h
  unfold Machine.rawTransition
  dsimp only
  split
  · exact k.raise _ _ moved
  · exact moved

theorem terminalChange (j : InputId) (term : Terminal) : P (terminalChange j term s) := by
  have moved := k.inputs s (s.inp.set j { s.inp.get j with term }) h
  unfold Machine.terminalChange
  dsimp only
  split
  · exact k.rawTransition moved _ _
  · exact moved

theorem armedEdge (j : InputId) (e : Edge) (t : Time) : P (armedEdge j e t s) := by
  unfold Machine.armedEdge
  split
  case h_1 armed _ _ =>
    split
    · exact k.startDue s s.seq.ppsCount (some t) h armed
    · exact h
  case h_2 => exact h

theorem qualify (j : InputId) (time routed : Time) : P (qualify j time routed s).1 := by
  unfold Machine.qualify
  dsimp only
  split
  · exact k.inputs _ _ h
  · exact k.armedEdge (k.inputs _ _ h) _ _ _

theorem leaveChatter (j : InputId) (t : Time) : P (leaveChatter j t s).1 := by
  unfold Machine.leaveChatter
  dsimp only
  split
  · split
    · exact k.qualify (k.inputs _ _ h) _ _ _
    · exact k.inputs _ _ h
  · exact h

theorem timerEdge (m : TimerId) (j : InputId) (edge : Edge) (e r : Time) :
    P (timerEdge m j edge e r s).1 := by
  unfold Machine.timerEdge
  dsimp only
  repeat' split
  all_goals exact k.timers _ _ h

omit h in
theorem keptByWork : KeptByWork P :=
  { k.toKeptByActions with
    edge := fun _ m j edge time r h => k.timerEdge h m j edge time r
    exit := fun _ j t h => k.leaveChatter h j t }

theorem debounceEnd (j : InputId) (sched : List Nat) : P (debounceEnd j sched s) := by
  unfold Machine.debounceEnd
  split
  case h_1 => exact h
  case h_2 w _ =>
    exact k.keptByWork.runWorks _ _ (k.qualify (k.inputs _ _ (k.advance h w.ends)) _ _ _)

theorem chatterBoundary (sched : List Nat) : P (chatterBoundary sched s) := by
  let t := periodicDue 1000000 s.clock.nextChatter s.now
  have begun := k.clock _ { s.clock with nextChatter := nextMultiple 1000000 t }
    (k.inputs _ (s.inp.map Input.nextWindow) (k.advance h t))
  exact k.keptByWork.runWorks _ _ begun

theorem learningEnd (j : InputId) : P (learningEnd j s) := by
  unfold Machine.learningEnd
  split
  · split
    · unfold completeLearning
      dsimp only
      split
      · exact k.raise _ _ (k.rawTransition (k.inputs _ _ h) _ _)
      · exact k.raise _ _ (k.inputs _ _ h)
    · exact h
  · exact h

/-! ## Supervision -/

theorem sagOnset (t : Time) : P (sagOnset t s) := by
  have risen := k.rejectRises h .supplySag
  unfold Machine.sagOnset
  dsimp only
  split
  · split
    · exact k.flag _ _ risen
    · exact k.hardStop _ _ _ (k.flag _ _ risen)
  · exact risen

theorem readSag (t : Time) (low : Bool) : P (readSag t low s) := by
  unfold Machine.readSag
  dsimp only
  split
  · exact k.sagOnset (k.supervision _ _ h) _
  · exact k.supervision _ _ h

theorem supplyCheck (low : Bool) (volts : Bank Nat 10) : P (supplyCheck low volts s) :=
  k.inputs _ _ (k.readSag (k.clock _ _ (k.advance h _)) _ _)

theorem thermalNotices (a b : Bool) : P (thermalNotices a b s) := by
  cases a <;> cases b
  · exact h
  · exact k.raise _ _ h
  · exact k.raise _ _ h
  · exact k.raise _ _ (k.raise _ _ h)

theorem supervise (sched : List Nat) : P (supervise sched s) := by
  let t := periodicDue 10000 s.clock.nextSupervision s.now
  have charged := k.clock _ { s.clock with nextSupervision := nextMultiple 10000 t }
    (k.supervision _ { s.sup with thermal := updateThermal (s.advance t) } (k.advance h t))
  exact runWork_keeps (fun o u hu => k.hardStop u _ _ hu) _ _ _ (k.thermalNotices charged _ _)

theorem interlockOpens (t : Time) : P (interlockOpens t s) := by
  unfold Machine.interlockOpens
  split
  · exact h
  · exact k.hardStop _ _ _ (k.rejectRises (k.raise _ _ (k.supervision _ _ h)) _)

theorem settleEnd : P (settleEnd s) := by
  unfold Machine.settleEnd
  split
  case h_1 => exact h
  case h_2 t _ =>
    exact k.raise _ _ (k.outlets _ ({ s.syn with settle := none }.closeContactors) rfl (k.advance h t))

/-! ## The time base -/

theorem lossOfSync (b : Sync) : P (lossOfSync b s) := by
  unfold Machine.lossOfSync
  split
  · exact k.rejectRises h _
  · exact h

theorem capture (sync : Sync) (p : Time) : P (capture sync p s) := by
  unfold Machine.capture
  dsimp only
  split
  · exact k.timeBase _ _ h
  · exact k.raise _ _ (k.timeBase _ _ h)

theorem countPulse (p : Time) : P (countPulse p s) := by
  unfold Machine.countPulse
  split
  case h_1 n armed _ _ => exact k.startDue _ _ _ h armed
  case h_2 => exact h

theorem waitEnded (p : Time) : P (Machine.endWait p s) := by
  unfold Machine.endWait
  split
  case h_1 q running _ =>
    split
    · exact k.endWait _ _ h running
    · exact h
  case h_2 => exact h

theorem entryAtPulse (p : Time) : P (entryAtPulse p s) := by
  unfold Machine.entryAtPulse
  split
  case h_1 q running _ =>
    split
    · exact k.takeEntry h running _ _ _ _
    · exact h
  case h_2 => exact h

theorem handPulse (p : Time) (first : Bool) : P (handPulse p first s) := by
  have ended := k.waitEnded (k.countPulse h p) p
  unfold Machine.handPulse
  dsimp only
  split
  · exact k.entryAtPulse ended _
  · exact ended

theorem ppsPulse (p : Time) (first : Bool) : P (ppsPulse p first s) := by
  unfold Machine.ppsPulse
  split
  · exact k.timeBase _ _ h
  · exact k.lossOfSync (k.capture h _ _) _
  · exact k.lossOfSync (k.capture h _ _) _
  · exact k.routed (k.handPulse (k.capture h _ _) _ _) _

theorem holdoverEntry : P (holdoverEntry s) := by
  unfold Machine.holdoverEntry
  split
  case h_1 l _ _ => exact k.raise _ _ (k.timeBase _ _ (k.advance h (after l 1000201)))
  case h_2 => exact h

theorem fallToNoSync (l : Time) : P (fallToNoSync l s) :=
  k.lossOfSync (k.raise _ _ (k.timeBase _ _ (k.advance h (after l 5000000)))) _

theorem syncTimeout : P (syncTimeout s) := by
  unfold Machine.syncTimeout
  split
  · exact k.fallToNoSync h _
  · exact k.fallToNoSync h _
  · exact h

/-! ## Timers and breakers -/

theorem timerTimeout (m : TimerId) : P (timerTimeout m s) := by
  unfold Machine.timerTimeout
  split
  case h_1 d _ _ _ => exact k.routed (k.timers _ _ (k.advance h d)) _
  case h_2 => exact h

theorem openComplete (b : BreakerId) : P (openComplete b s) := by
  unfold Machine.openComplete
  split
  case h_1 op inShot hop =>
    split
    case isTrue opens => exact k.routed (k.opened _ b op (k.advance h op.due) inShot hop opens) _
    case isFalse => exact h
  case h_2 => exact h

theorem closeComplete (b : BreakerId) : P (closeComplete b s) := by
  unfold Machine.closeComplete
  split
  case h_1 op inShot hop =>
    split
    case isTrue => exact h
    case isFalse closes =>
      exact k.routed (k.closed _ b op (k.advance h op.due) inShot hop (by simpa using closes)) _
  case h_2 => exact h

end KeptByPieces

end Sys2Proof.Machine
end

section
/-! PROOFS. What the messages are made of: a property that the pieces of an event and the effects of a
message keep is kept by every message (R9 to R12, R19, R39 to R42, R64, R68, R78, R170, R171, R185). -/

namespace Sys2Proof.Machine

/-! ## The branches of a message -/

/-- An editing message leaves the state or takes its effect and withdraws the commitment (R9). -/
theorem editing_cases {α : Type} (operands : Option α) (effect : α → State → State) (s : State) :
    (editing operands effect s).1 = s ∨ s.seq.st.editable = true ∧
      ∃ a, operands = some a ∧ (editing operands effect s).1 = (effect a s).withdraw := by
  unfold editing
  split
  case isTrue editable =>
    cases operands with
    | none => exact .inl rfl
    | some a => exact .inr ⟨editable, a, rfl, rfl⟩
  case isFalse => exact .inl rfl

/-- A property that the pieces of an event and the effects of the messages keep. -/
structure KeptByEffects (P : State → Prop) : Prop extends KeptByPieces P where
  freeCount : ∀ s n, P s → P { s with freeCount := n }
  edit : ∀ s table header trg curves grades, P s → s.seq.st.editable = true →
    P { s with seq := { s.seq with table, header }, trg, rep := { s.rep with curves, grades } }.withdraw
  breaker : ∀ s b c, P s → s.seq.st.editable = true → P (setBreakerConfig b c s).withdraw
  commit : ∀ s h, P s → s.seq.st.editable = true → P (s.commit h)
  arm : ∀ s src, P s → s.seq.st = .ready → countedSet src s = [] → P (s.arm src)
  markRead : ∀ s n, P s → P { s with rep := s.rep.markRead n }
  releaseRead : ∀ s, P s → P { s with rep := s.rep.releaseRead }
  release : ∀ s n, P s → P { s with rep := s.rep.release n }

namespace KeptByEffects

variable {P : State → Prop} (k : KeptByEffects P)

theorem editing {α : Type} {s : State} (h : P s) (operands : Option α) (effect : α → State → State)
    (he : ∀ a, s.seq.st.editable = true → P (effect a s).withdraw) :
    P (Machine.editing operands effect s).1 := by
  rcases editing_cases operands effect s with same | ⟨editable, a, -, taken⟩
  · rw [same]; exact h
  · rw [taken]; exact he a editable

include k

theorem configureBreaker (b : List Byte) {s : State} (h : P s) : P (configureBreaker b s).1 := by
  unfold Machine.configureBreaker
  split
  case isTrue editable =>
    split
    · split
      · exact h
      · exact k.breaker _ _ _ h editable
    · exact h
  case isFalse => exact h

theorem commitSequence (b : List Byte) {s : State} (h : P s) : P (commitSequence b s).1 := by
  unfold Machine.commitSequence
  split
  case isTrue editable =>
    split
    · split
      · exact k.edit s s.seq.table s.seq.header s.trg s.rep.curves s.rep.grades h editable
      · exact k.commit _ _ h editable
    · exact h
  case isFalse => exact h

theorem setMap (b : List Byte) {s : State} (h : P s) : P (setMap b s).1 := by
  have same (m : OutletMap) : (s.syn.setMap m s.now).dac = s.syn.dac := by
    unfold Synth.setMap
    split <;> rfl
  unfold Machine.setMap
  split
  · split
    case h_1 m _ =>
      exact k.outlets s (deriveOutlets false s.cal.working (s.syn.setMap m s.now)) (same m) h
    case h_2 => exact h
  · exact h

theorem configureInput (b : List Byte) {s : State} (h : P s) : P (configureInput b s).1 := by
  unfold Machine.configureInput
  split
  · split
    · split
      · exact h
      · exact k.inputs _ _ h
    · exact h
  · exact h

theorem learnThreshold (b : List Byte) {s : State} (h : P s) : P (learnThreshold b s).1 := by
  have used : P (useFree b s) := by
    unfold useFree
    split
    · exact k.freeCount _ _ h
    · exact h
  unfold Machine.learnThreshold
  dsimp only
  split
  · split
    · split
      · exact used
      · exact k.inputs _ _ used
    · exact used
  · exact h

theorem armShot (b : List Byte) {s : State} (h : P s) : P (armShot b s).1 := by
  unfold Machine.armShot
  split
  case h_1 ready =>
    split
    · split
      case h_1 clear => exact k.arm _ _ h ready clear
      case h_2 => exact h
    · exact h
  all_goals exact h

theorem disarm {s : State} (h : P s) : P (disarm s).1 := by
  unfold Machine.disarm
  split
  case h_1 armed => exact k.endArm _ _ h armed
  all_goals exact h

theorem stopShot {s : State} (h : P s) : P (stopShot s).1 := by
  unfold Machine.stopShot
  split
  case h_1 running => exact k.softStop _ _ _ h running
  all_goals exact h

theorem abortShot {s : State} (h : P s) : P (abortShot s).1 := by
  unfold Machine.abortShot
  split
  case h_1 armed => exact k.endArm _ _ h armed
  case h_2 => exact k.hardStop _ _ _ h
  case h_3 => exact k.hardStop _ _ _ h
  case h_4 inTail =>
    refine k.finalize _ _ (k.addFurther _ _ h inTail) ?_
    unfold State.addFurther
    split <;> simpa using inTail
  all_goals exact h

theorem readReport (b : List Byte) {s : State} (h : P s) : P (readReport b s).1 := by
  unfold Machine.readReport
  split
  · exact h
  · split
    · exact h
    · dsimp only [results]
      split
      · exact k.markRead _ _ h
      · exact h

theorem releaseReport (b : List Byte) {s : State} (h : P s) : P (releaseReport b s).1 := by
  unfold Machine.releaseReport
  split
  · exact h
  · dsimp only
    split
    · exact k.releaseRead _ h
    · split
      · exact h
      · split
        · exact h
        · exact k.release _ _ h

/-- Every message keeps such a property. -/
theorem keptByMessages : KeptByMessages P where
  loadState _ s h := editing h _ _ fun r =>
    k.edit s (s.seq.table.set r.1 (some r.2)) s.seq.header s.trg s.rep.curves s.rep.grades h
  clearSequence s h := editing h _ _ fun _ =>
    k.edit { s with tmr := (clearAll s).tmr } _ _ _ _ _ (k.timers _ _ h)
  commitSequence b _ h := k.commitSequence b h
  loadTrigger _ s h := editing h _ _ fun r =>
    k.edit s s.seq.table s.seq.header (s.trg.set r.1 { entry := some r.2, count := 0 }) s.rep.curves
      s.rep.grades h
  configureTimer _ s h := editing h _ _ fun r =>
    k.edit { s with tmr := s.tmr.modify r.1 fun m => { m with cfg := r.2 } } s.seq.table s.seq.header
      s.trg s.rep.curves s.rep.grades (k.timers _ _ h)
  configureBreaker b _ h := k.configureBreaker b h
  loadCurve _ s h := editing h _ _ fun r =>
    k.edit s s.seq.table s.seq.header s.trg (s.rep.curves.set r.1 r.2) s.rep.grades h
  loadGrade _ s h := editing h _ _ fun r =>
    k.edit s s.seq.table s.seq.header s.trg s.rep.curves (s.rep.grades.set r.1 r.2) h
  setMap b _ h := k.setMap b h
  configureInput b _ h := k.configureInput b h
  learnThreshold b _ h := k.learnThreshold b h
  armShot b _ h := k.armShot b h
  disarm _ h := k.disarm h
  stopShot _ h := k.stopShot h
  abortShot _ h := k.abortShot h
  readReport b _ h := k.readReport b h
  releaseReport b _ h := k.releaseReport b h
  getStatus _ h := k.timeBase _ _ h

end KeptByEffects

/-- Such a property that does not look at the link is kept by every command when the resets keep it. -/
theorem KeptByEffects.keptByCommands {P : State → Prop} (k : KeptByEffects P) (blind : LinkBlind P)
    (start : ∀ pins s, P s → P (State.start pins s)) (hold : ∀ s, P s → P s.hold)
    (lose : ∀ s, P s → P s.lose) (engineReset : ∀ s, P s → P s.engineReset)
    (calibration : ∀ s c, P s → P { s with cal := c }) : KeptByCommands P :=
  { blind, k.keptByMessages with
    start, hold, lose, engineReset
    writeDone := fun s w h => calibration _ (s.cal.finish w)
      (k.supervision s { s.sup with thermal := limitHeat w s.sup.thermal } h)
    sampleTick := fun _ h => k.sampleTick h
    shotStart := fun _ h => k.shotStart h
    durationExpiry := fun _ h => k.durationExpiry h
    rampStep := fun _ h => k.rampStep h
    transitionEntry := fun _ h => k.transitionEntry h
    lengthLimit := fun _ h => k.lengthLimit h
    forcedCut := fun _ h => k.forcedCut h
    tailExpiry := fun _ h => k.tailExpiry h
    terminalChange := fun j term _ h => k.terminalChange h j term
    debounceEnd := fun j sched _ h => k.debounceEnd h j sched
    chatterBoundary := fun sched _ h => k.chatterBoundary h sched
    supplyCheck := fun low volts _ h => k.supplyCheck h low volts
    learningEnd := fun j _ h => k.learningEnd h j
    supervise := fun sched _ h => k.supervise h sched
    interlockOpens := fun t _ h => k.interlockOpens h t
    interlockCloses := fun _ h => k.supervision _ _ h
    ppsPulse := fun t first _ h => k.ppsPulse h t first
    holdoverEntry := fun _ h => k.holdoverEntry h
    syncTimeout := fun _ h => k.syncTimeout h
    settleEnd := fun _ h => k.settleEnd h
    timerTimeout := fun m _ h => k.timerTimeout h m
    openComplete := fun b _ h => k.openComplete h b
    closeComplete := fun b _ h => k.closeComplete h b }

end Sys2Proof.Machine
end

section
/-! PROOFS. Every step keeps the link within its bounds (R176, R177, R179, R186): events and messages raise
notices at most, the queue is served while there is room, and the resets empty the order. -/

namespace Sys2Proof.Machine

/-! ## Events and messages -/

/-- What holds of the link and of the write that holds its queue. -/
def LinkHolds (Q : Link → Option CalWrite → Prop) (s : State) : Prop := Q s.link s.cal.write

section
variable {Q : Link → Option CalWrite → Prop}

theorem LinkHolds.congr {s t : State} (h : LinkHolds Q s) (hl : t.link = s.link)
    (hw : t.cal.write = s.cal.write) : LinkHolds Q t := by
  unfold LinkHolds at *
  rw [hl, hw]
  exact h

theorem LinkHolds.sameOutside {s t : State} (h : LinkHolds Q s) (o : SameOutside s t) :
    LinkHolds Q t := h.congr o.link (by rw [o.cal])

end

theorem hardStop_link (s : State) (c : HardCause) (t : Time) : (s.hardStop c t).link = s.link := by
  unfold State.hardStop
  split
  · exact (SameOutside.write _ _).link
  · exact (SameOutside.addFurther s c).link
  · exact (SameOutside.addFurther s c).link
  all_goals rfl

theorem finalize_link (t : Time) (s : State) : (finalize t s).link = s.link.raise .shotEnded := by
  simp [finalize, leaveTail, holdReport, writeGrades, closeTimers]

theorem enterState_link (i : StateIdx) (reset : Bool) (c : Cause) (a p : Bool) (tick : Time) (s : State) :
    (enterState i reset c a p tick s).link = s.link := by
  unfold enterState writeTrail
  exact (SameOutside.write _ _).link

theorem cutAt_link (t : Time) (s : State) : (cutAt t s).link = s.link := by
  simp [cutAt, State.enterTail]

/-- The pieces of events and messages keep what a raised notice keeps of the link. -/
theorem LinkHolds.keptByEffects {Q : Link → Option CalWrite → Prop}
    (noted : ∀ l w k, Q l w → Q (l.raise k) w) : KeptByEffects (LinkHolds Q) where
  goto _ _ _ _ h _ _ := h.sameOutside (SameOutside.request _ _ _ _)
  endShot _ _ h _ := h.sameOutside (SameOutside.softStop _ _ _)
  startTimer _ _ _ _ h := h.sameOutside (SameOutside.startTimer _ _ _ _)
  stopTimer _ _ _ _ h := h.sameOutside (SameOutside.stopTimer _ _ _ _)
  trip _ _ _ _ h := h.sameOutside (SameOutside.tripBreaker _ _ _ _)
  close _ _ _ _ h := h.sameOutside (SameOutside.closeBreaker _ _ _ _)
  mark _ _ h := h.sameOutside (SameOutside.takeMark _ _)
  log _ _ _ _ h := h.sameOutside (SameOutside.logFiring _ _ _ _)
  chainLimit _ h := h.sameOutside (SameOutside.flag _ _)
  count _ _ _ h := h.congr rfl rfl
  now _ _ h := h.congr rfl rfl
  clock _ _ h := h.congr rfl rfl
  raise _ k h := noted _ _ k h
  inputs _ _ h := h.congr rfl rfl
  timers _ _ h := h.congr rfl rfl
  timeBase _ _ h := h.congr rfl rfl
  supervision _ _ h := h.congr rfl rfl
  outlets _ _ _ h := h.congr rfl rfl
  sample _ t h := (endStopping_keeps (t := t) h fun _ => h.congr rfl rfl).congr rfl rfl
  flag _ _ h := h.sameOutside (SameOutside.flag _ _)
  startDue _ _ _ h _ := h.congr rfl rfl
  endArm _ _ h _ := h.congr rfl rfl
  begun _ _ _ h _ :=
    h.congr (enterState_link _ _ _ _ _ _ _) (by
      unfold begunShot
      rw [(SameAround.enterState _ _ _ _ _ _ _).cal]
      rfl)
  request _ _ _ _ h _ := h.sameOutside (SameOutside.request _ _ _ _)
  endWait _ _ h _ := h.congr rfl rfl
  noDuration _ h := h.congr rfl rfl
  superseded _ h := h.sameOutside (SameOutside.write _ _)
  dwell _ _ _ h _ := h.congr rfl rfl
  enter _ _ _ _ _ _ _ h _ :=
    h.congr (enterState_link _ _ _ _ _ _ _) (by rw [(SameAround.enterState _ _ _ _ _ _ _).cal])
  softStop _ _ _ h _ := h.sameOutside (SameOutside.softStop _ _ _)
  hardStop _ _ _ h := h.congr (hardStop_link _ _ _) (by rw [(SameAround.hardStop _ _ _).cal])
  addFurther _ _ h _ := h.sameOutside (SameOutside.addFurther _ _)
  cut _ _ h _ := h.congr (cutAt_link _ _) (by rw [(SameAround.cutAt _ _).cal])
  finalize s t h _ := LinkHolds.congr (s := s.raise .shotEnded) (noted _ _ _ h) (finalize_link t s)
    (by rw [(SameAround.finalize _ _).cal]; rfl)
  opened _ _ _ h _ _ _ := h.sameOutside (SameOutside.completeOpen _ _ _)
  closed _ _ _ h _ _ _ := h.sameOutside (SameOutside.completeClose _ _ _)
  freeCount _ _ h := h.congr rfl rfl
  edit _ _ _ _ _ _ h _ := h.congr rfl rfl
  breaker _ _ _ h _ := h.congr rfl rfl
  commit _ _ h _ := h.congr rfl rfl
  arm _ _ h _ _ := h.congr rfl rfl
  markRead _ _ h := h.congr rfl rfl
  releaseRead _ h := h.congr rfl rfl
  release _ _ h := h.congr rfl rfl

/-! ## The execution of a request (R176, R178) -/

/-- A request at the head of the queue may be executed: fewer than two replies stand in the order, no
reset is awaited and no write is in progress. -/
structure Link.Executing (l : Link) (write : Option CalWrite) : Prop where
  bounded : l.Within write
  room : l.kinds.countP TxKind.isReply < 2
  awake : l.resetting = false
  holds : l.queue ≠ []
  free : write = none

theorem Link.dueNote_replies (l : Link) :
    l.dueNote.kinds.countP TxKind.isReply ≤ l.kinds.countP TxKind.isReply := by
  unfold Link.dueNote
  split
  · exact (l.join_kinds waitingNote).countP_le.trans (by simp [waitingNote, TxKind.isReply])
  · split <;> exact le_rfl

theorem Link.dueNote_queue (l : Link) : l.dueNote.queue = l.queue := by
  unfold Link.dueNote
  split
  · rfl
  · split <;> rfl

theorem Link.dueNote_resetting (l : Link) : l.dueNote.resetting = l.resetting := by
  unfold Link.dueNote
  split
  · rfl
  · split <;> rfl

/-- What the NOTE that becomes due, the pending set and the mask leave of the link. -/
structure LinkNoted (Q : Link → Option CalWrite → Prop) : Prop where
  sets : ∀ l w noticeSet mask, Q l w → Q { l with noticeSet, mask } w
  due : ∀ l w, Q l w → Q l.dueNote w

namespace LinkNoted

variable {Q : Link → Option CalWrite → Prop} (n : LinkNoted Q) {l : Link} {w : Option CalWrite}

include n

theorem raise (h : Q l w) (k : Notice) : Q (l.raise k) w := by
  unfold Link.raise
  split
  · exact h
  · dsimp only
    split
    · exact n.due _ _ (n.sets _ _ _ _ h)
    · exact n.sets l w (l.noticeSet.set k.bit true) l.mask h

theorem setMask (h : Q l w) (mask : Bank Bool 12) : Q (l.setMask mask) w := by
  unfold Link.setMask
  dsimp only
  split
  · exact n.due _ _ (n.sets _ _ _ _ h)
  · exact n.sets l w l.noticeSet mask h

theorem keptByEffects : KeptByEffects (LinkHolds Q) :=
  LinkHolds.keptByEffects fun _ _ k h => n.raise h k

/-- A message that begins no write leaves what it leaves of the link by its notices. -/
theorem message (kind : Byte) (b : List Byte) {s : State} (h : LinkHolds Q s) :
    LinkHolds Q (message kind b s).1 ∨
      ∃ w, (Machine.message kind b s).2 = .writing w ∧ (Machine.message kind b s).1.link = s.link ∧
        (Machine.message kind b s).1.cal.write = some w := by
  have k := n.keptByEffects.keptByMessages
  unfold Machine.message
  split
  case h_7 =>
    unfold writeCalibration
    split
    · exact .inr ⟨_, rfl, rfl, rfl⟩
    · exact .inl h
  all_goals left
  case h_1 => exact h
  case h_2 => exact k.getStatus _ h
  case h_3 => exact h
  case h_4 =>
    dsimp only [setNoticeMask, atOnce]
    split
    · exact n.setMask h _
    · exact h
  case h_5 =>
    dsimp only [acknowledgeNotices, atOnce]
    split
    · exact n.sets s.link _ _ s.link.mask h
    · exact h
  case h_6 => exact KeptByCommands.readCalibration (P := LinkHolds Q) _ h
  case h_8 => exact k.loadState _ _ h
  case h_9 => exact k.clearSequence _ h
  case h_10 => exact k.commitSequence _ _ h
  case h_11 => exact k.loadTrigger _ _ h
  case h_12 => exact k.configureTimer _ _ h
  case h_13 => exact k.configureBreaker _ _ h
  case h_14 => exact k.loadCurve _ _ h
  case h_15 => exact k.loadGrade _ _ h
  case h_16 => exact k.setMap _ _ h
  case h_17 => exact k.configureInput _ _ h
  case h_18 => exact k.learnThreshold _ _ h
  case h_19 => exact KeptByCommands.getInput (P := LinkHolds Q) _ h
  case h_20 => exact k.armShot _ _ h
  case h_21 => exact k.disarm _ h
  case h_22 => exact k.stopShot _ h
  case h_23 => exact k.abortShot _ h
  case h_24 => exact h
  case h_25 => exact k.readReport _ _ h
  case h_26 => exact k.releaseReport _ _ h
  case h_27 => exact h

theorem respond (f : Frame) {s : State} (h : LinkHolds Q s) :
    LinkHolds Q (respond f s).1 ∨
      ∃ w, (Machine.respond f s).2 = .writing w ∧ (Machine.respond f s).1.link = s.link ∧
        (Machine.respond f s).1.cal.write = some w := by
  unfold Machine.respond
  split
  · exact .inl h
  · split
    · exact .inl h
    · exact n.message _ _ h

end LinkNoted

/-- What executing a request leaves before its reply joins: a link that may still execute it, or a write
that has begun (R178, R179). -/
theorem executing_noted : LinkNoted Link.Executing where
  sets _ _ _ _ h := ⟨h.bounded, h.room, h.awake, h.holds, h.free⟩
  due l _ h := ⟨h.bounded.dueNote, l.dueNote_replies.trans_lt h.room, l.dueNote_resetting.trans h.awake,
    by rw [l.dueNote_queue]; exact h.holds, h.free⟩

theorem message_writing {kind : Byte} {b : List Byte} {s t : State} {w : CalWrite}
    (e : message kind b s = (t, .writing w)) : t = { s with cal := { s.cal with write := some w } } := by
  unfold message at e
  split at e
  case h_7 =>
    unfold writeCalibration at e
    split at e <;> cases e
    rfl
  all_goals cases e

/-- Only WCAL begins a write, and changes nothing else (R179). -/
theorem respond_writing {f : Frame} {s t : State} {w : CalWrite}
    (e : respond f s = (t, .writing w)) : t = { s with cal := { s.cal with write := some w } } := by
  unfold respond at e
  split at e
  · cases e
  · split at e
    · cases e
    · exact message_writing e

theorem linkBounded_iff_linkHolds (s : State) :
    LinkBounded s ↔ LinkHolds (fun l w => l.Within w) s := linkBounded_iff s

/-- The reply of an executed request joins, and the request leaves the queue (R176, R177). -/
theorem answer_within {what : TxKind} (f : Frame) (body : List Byte) {s : State}
    (h : OrderBounded (s.link.kinds ++ [what]) s.link.queue.tail s.link.resetting s.cal.write) :
    LinkBounded (answer what f body s) :=
  (linkBounded_iff _).2 (h.sublist (Link.join_kinds s.link.dequeue (replyFrame what f body)))

theorem execute_bounded (f : Frame) {s : State} (h : s.link.Executing s.cal.write) :
    LinkBounded (execute f s) := by
  have left := executing_noted.respond f h
  unfold execute
  split
  case h_1 u body e =>
    rw [e] at left
    obtain executing | ⟨w, writes, -⟩ := left
    · obtain ⟨bounded, room, awake, holds, free⟩ := executing
      refine answer_within f body ?_
      rw [free] at bounded ⊢
      exact bounded.reply room
    · cases writes
  case h_2 u e =>
    rw [e] at left
    obtain executing | ⟨w, writes, -⟩ := left
    · obtain ⟨bounded, room, awake, holds, free⟩ := executing
      rw [linkBounded_iff]
      have reset := OrderBounded.reset (free ▸ bounded) room
      have joined := reset.sublist (Link.join_kinds u.link.dequeue (replyFrame .resetReply f [Status.ok.code]))
      change OrderBounded _ _ _ u.cal.write
      rw [free]
      exact joined
    · cases writes
  case h_3 u w e =>
    rw [respond_writing e, linkBounded_iff]
    obtain ⟨bounded, room, awake, holds, free⟩ := h
    exact OrderBounded.beginWrite (free ▸ bounded) awake holds room

theorem executing_of_mayExecute {s : State} (h : LinkBounded s) (may : mayExecute s = true)
    (holds : s.link.queue ≠ []) : s.link.Executing s.cal.write := by
  simp only [mayExecute, Bool.and_eq_true, Option.isNone_iff_eq_none, Bool.not_eq_true',
    decide_eq_true_iff] at may
  obtain ⟨⟨free, awake⟩, room⟩ := may
  exact ⟨(linkBounded_iff s).1 h, s.link.replies_eq ▸ room, awake, holds, free⟩

/-! ## The queue and the assembler (R173, R176) -/

theorem serve_bounded (fuel : Nat) {s : State} (h : LinkBounded s) : LinkBounded (serve fuel s) := by
  induction fuel generalizing s with
  | zero => exact h
  | succ fuel ih =>
    unfold serve
    split
    case h_1 => exact h
    case h_2 f _ held =>
      split
      case isTrue may => exact ih (execute_bounded f (executing_of_mayExecute h may (by simp [held])))
      case isFalse => exact h

theorem raise_bounded {s : State} (h : LinkBounded s) (k : Notice) : LinkBounded (s.raise k) :=
  (linkBounded_iff _).2 (Link.Within.raise ((linkBounded_iff s).1 h) k)

theorem refuseBusy_bounded (f : Frame) {s : State} (h : LinkBounded s) : LinkBounded (refuseBusy f s) := by
  unfold refuseBusy
  split
  case isTrue room =>
    rw [Link.busies_eq] at room
    exact (linkBounded_iff _).2
      ((((linkBounded_iff s).1 h).busy room).sublist (Link.join_kinds s.link (replyFrame .busy f _)))
  case isFalse => exact raise_bounded h _

theorem submit_bounded (f : Frame) {s : State} (h : LinkBounded s) : LinkBounded (submit f s) := by
  unfold submit
  split
  case isTrue => exact h
  case isFalse awake =>
    split
    case isTrue room =>
      have within := (linkBounded_iff s).1 h
      rw [Bool.not_eq_true] at awake
      rw [awake] at within
      refine serve_bounded 2 ((linkBounded_iff _).2 ?_)
      change OrderBounded _ _ s.link.resetting _
      rw [awake]
      exact within.enqueue f room
    case isFalse => exact refuseBusy_bounded f h

/-- The receive assembler has no part in the bounds. -/
theorem LinkBounded.assembler {s : State} (h : LinkBounded s) (a : Assembler) :
    LinkBounded { s with link := { s.link with rx := a } } :=
  (linkBounded_iff _).2 ((linkBounded_iff s).1 h)

theorem abandon_bounded {s : State} (h : LinkBounded s) : LinkBounded (abandon s) :=
  raise_bounded (h.assembler _) _

theorem completeFrame_bounded (low : Byte) {s : State} (h : LinkBounded s) :
    LinkBounded (completeFrame low s) := by
  unfold completeFrame
  dsimp only
  split
  · exact submit_bounded _ (h.assembler _)
  · exact raise_bounded (h.assembler _) _

theorem takeCharacter_bounded (t : Time) (ch : Byte) {s : State} (h : LinkBounded s) :
    LinkBounded (takeCharacter t ch s) := by
  unfold takeCharacter
  dsimp only
  split
  case h_2 =>
    split
    · exact abandon_bounded h
    · exact h.assembler _
  case h_7 => exact completeFrame_bounded _ h
  all_goals exact h.assembler _

theorem receive_bounded (t : Time) (ch : Byte) (stopBit : Bool) {s : State} (h : LinkBounded s) :
    LinkBounded (receive t ch stopBit s) := by
  have first : LinkBounded (if s.link.rx.late t then abandon s else s) := by
    split
    · exact abandon_bounded h
    · exact h
  unfold receive
  dsimp only
  generalize (if s.link.rx.late t then abandon s else s) = u at first ⊢
  split
  · exact takeCharacter_bounded _ _ first
  · split
    · exact first
    · exact abandon_bounded first

/-! ## The end of a write, the transmitter and the resets (R177, R186, R189) -/

theorem writeComplete_bounded {s : State} (h : LinkBounded s) : LinkBounded (writeComplete s) := by
  unfold writeComplete
  split
  case h_1 w f rest writes held =>
    have within := (linkBounded_iff s).1 h
    have room : s.link.kinds.countP TxKind.isReply ≤ 1 := (within.writing (by simp [writes])).2
    refine serve_bounded 2 (answer_within f _ ?_)
    exact within.endWrite.reply (by omega)
  case h_2 => exact h

theorem restart_bounded {s : State} {strap : Strap} {mask : Bank Bool 12}
    (hl : s.link = Link.restart strap mask) (hw : s.cal.write = none) : LinkBounded s := by
  rw [linkBounded_iff, hw, hl]
  exact Link.restart_within strap mask

theorem interruptWrite_write (s : State) : s.interruptWrite.cal.write = none :=
  (interruptWrite_eq s).1

theorem start_bounded (pins : Pins) (s : State) : LinkBounded (s.start pins) :=
  restart_bounded (strap := pins.strap) (mask := .fill 12 true) rfl (interruptWrite_write s)

theorem Link.restart_queue (strap : Strap) (mask : Bank Bool 12) :
    (Link.restart strap mask).queue = [] := by
  unfold Link.restart
  dsimp only
  split
  · exact Link.dueNote_queue _
  · rfl

theorem Link.restart_resetting (strap : Strap) (mask : Bank Bool 12) :
    (Link.restart strap mask).resetting = false := by
  unfold Link.restart
  dsimp only
  split
  · exact Link.dueNote_resetting _
  · rfl

theorem hold_bounded (s : State) : LinkBounded s.hold := by
  rw [linkBounded_iff]
  change OrderBounded [] (Link.restart _ _).queue (Link.restart _ _).resetting s.interruptWrite.cal.write
  rw [Link.restart_queue, Link.restart_resetting, interruptWrite_write]
  exact OrderBounded.nil

theorem lose_bounded (s : State) : LinkBounded s.lose := by
  rw [linkBounded_iff]
  exact (interruptWrite_write s) ▸ OrderBounded.nil

theorem engineReset_bounded {s : State} (h : LinkBounded s) {f : TxFrame} (hf : f ∈ s.link.order)
    (what : f.what = .resetReply) : LinkBounded s.engineReset :=
  restart_bounded rfl (h.resetting (h.resets f hf what)).2

theorem resetEvent_bounded {s : State} (h : LinkBounded s) : LinkBounded (engineReset s) := by
  unfold engineReset Link.resetAtHead
  cases order : s.link.order with
  | nil => exact h
  | cons f rest =>
    dsimp only
    split
    case isTrue what => exact engineReset_bounded h (order ▸ List.mem_cons_self) (by simpa using what)
    case isFalse => exact h

/-- The frame at the head leaves, and a further NOTE joins when it was one (R177, log 12). -/
theorem afterNote_within {l : Link} {w : Option CalWrite} {sent : TxFrame} {rest : List TxFrame}
    (h : l.Within w) (order : l.order = sent :: rest) :
    (({ l with order := rest } : Link).afterNote sent).Within w := by
  have kinds : l.kinds = sent.what :: rest.map TxFrame.what := by simp [Link.kinds, order]
  have left : ({ l with order := rest } : Link).Within w := by
    refine OrderBounded.sublist h ?_
    rw [kinds]
    exact List.sublist_cons_self _ _
  unfold Link.afterNote
  split
  case isTrue noted =>
    have absent : TxKind.note ∉ rest.map TxFrame.what := by
      have := h.notes
      rw [kinds, noted.1, List.count_cons_self] at this
      exact List.count_eq_zero.1 (by omega)
    have joined := OrderBounded.note left absent
    unfold Link.Within
    simpa [Link.kinds, waitingNote] using joined
  case isFalse => exact left

theorem frameSent_bounded (first : Bool) {s : State} (h : LinkBounded s) :
    LinkBounded (frameSent first s) := by
  unfold frameSent
  split
  case h_1 => exact h
  case h_2 f rest order =>
    split
    case isTrue what => exact engineReset_bounded h (order ▸ List.mem_cons_self) what
    case isFalse =>
      have left : LinkBounded { s with link := { s.link with order := rest }.afterNote f } :=
        (linkBounded_iff _).2 (afterNote_within ((linkBounded_iff s).1 h) order)
      have transmitted {u : State} (hu : LinkBounded u) : LinkBounded u.transmit :=
        (linkBounded_iff _).2 (Link.Within.transmit ((linkBounded_iff u).1 hu))
      unfold leaveOrder
      dsimp only
      split
      · exact transmitted (serve_bounded 2 left)
      · exact serve_bounded 2 (transmitted left)

/-! ## Every command -/

theorem whenUp_bounded {f : State → State} (hf : ∀ u, LinkBounded u → LinkBounded (f u)) {s : State}
    (h : LinkBounded s) : LinkBounded (whenUp f s) := KeptByCommands.whenUp hf h

theorem exec_bounded (c : Instr) {s t : State} (h : LinkBounded s) (e : exec c s = .next t) :
    LinkBounded t := by
  have k : KeptByEffects LinkBounded := by
    have holds := LinkHolds.keptByEffects (Q := fun l w => l.Within w) fun _ _ n g => g.raise n
    rwa [show LinkHolds (fun l w => l.Within w) = LinkBounded from
      funext fun u => propext (linkBounded_iff u).symm] at holds
  have adv {u : State} (hu : LinkBounded u) (t : Time) : LinkBounded (u.advance t) := k.advance hu t
  have next_inj {a b : State} (hab : (Host.Outcome.next a : Answer) = .next b) (ha : LinkBounded a) :
      LinkBounded b := by cases hab; exact ha
  cases c
  case powerOn pins => exact next_inj e (start_bounded _ _)
  case rstnAssert t => exact next_inj e (whenUp_bounded (fun _ _ => hold_bounded _) h)
  case rstnRelease pins =>
    refine next_inj e ?_
    split
    · exact start_bounded _ _
    all_goals exact h
  case engineReset t => exact next_inj e (whenUp_bounded (fun _ h => resetEvent_bounded (adv h _)) h)
  case rxCharacter t ch b => exact next_inj e (whenUp_bounded (fun _ h => receive_bounded _ _ _ (adv h _)) h)
  case frameSent t b => exact next_inj e (whenUp_bounded (fun _ h => frameSent_bounded _ (adv h _)) h)
  case wcalWriteComplete t =>
    exact next_inj e (whenUp_bounded (fun _ h => writeComplete_bounded (adv h _)) h)
  case sampleTick => exact next_inj e (whenUp_bounded (fun _ => k.sampleTick) h)
  case shotStart => exact next_inj e (whenUp_bounded (fun _ => k.shotStart) h)
  case durationExpiry => exact next_inj e (whenUp_bounded (fun _ => k.durationExpiry) h)
  case rampStep => exact next_inj e (whenUp_bounded (fun _ => k.rampStep) h)
  case transitionEntry => exact next_inj e (whenUp_bounded (fun _ => k.transitionEntry) h)
  case lengthLimit => exact next_inj e (whenUp_bounded (fun _ => k.lengthLimit) h)
  case forcedCut => exact next_inj e (whenUp_bounded (fun _ => k.forcedCut) h)
  case tailExpiry => exact next_inj e (whenUp_bounded (fun _ => k.tailExpiry) h)
  case rawTransition t j term =>
    exact next_inj e (whenUp_bounded (fun _ h => k.terminalChange (adv h _) _ _) h)
  case debounceWindowEnd j sched => exact next_inj e (whenUp_bounded (fun _ h => k.debounceEnd h _ _) h)
  case chatterWindowBoundary sched =>
    exact next_inj e (whenUp_bounded (fun _ h => k.chatterBoundary h _) h)
  case supplyCheck low volts => exact next_inj e (whenUp_bounded (fun _ h => k.supplyCheck h _ _) h)
  case learningEnd j => exact next_inj e (whenUp_bounded (fun _ h => k.learningEnd h _) h)
  case supervisionInterval sched => exact next_inj e (whenUp_bounded (fun _ h => k.supervise h _) h)
  case interlockOpening t =>
    exact next_inj e (whenUp_bounded (fun _ h => k.interlockOpens (adv h _) _) h)
  case interlockClosing t =>
    exact next_inj e (whenUp_bounded (fun _ h => k.supervision _ _ (adv h _)) h)
  case ppsPulse t b => exact next_inj e (whenUp_bounded (fun _ h => k.ppsPulse (adv h _) _ _) h)
  case holdoverEntry => exact next_inj e (whenUp_bounded (fun _ => k.holdoverEntry) h)
  case syncTimeout => exact next_inj e (whenUp_bounded (fun _ => k.syncTimeout) h)
  case outletSettleEnd => exact next_inj e (whenUp_bounded (fun _ => k.settleEnd) h)
  case timerTimeout m => exact next_inj e (whenUp_bounded (fun _ h => k.timerTimeout h _) h)
  case breakerOpenComplete b => exact next_inj e (whenUp_bounded (fun _ h => k.openComplete h _) h)
  case breakerCloseComplete b => exact next_inj e (whenUp_bounded (fun _ h => k.closeComplete h _) h)
  case powerLoss t =>
    refine next_inj e ?_
    split
    · exact h
    all_goals exact lose_bounded _
  all_goals exact next_inj e (whenUp_bounded (fun _ h => submit_bounded _ (adv h _)) h)

/-- Settles O55: every command keeps the bounds, and the passing of a microsecond does not touch them. -/
theorem everyStepKeepsTheLinkBounded : Obligations.EveryStepKeepsTheLinkBounded := by
  intro s t h e
  unfold step at e
  split at e
  case h_1 =>
    cases e
    refine whenUp_bounded (f := fun u => { u with now := u.now + 1 }) (fun u hu => ?_) h
    exact (linkBounded_iff _).2 ((linkBounded_iff u).1 hu)
  case h_2 c rest _ =>
    exact exec_bounded c ((linkBounded_iff (s.withPending rest)).2 ((linkBounded_iff s).1 h)) e

end Sys2Proof.Machine
end

section
/-! PROOFS. Every step keeps the sequencer, the slots and the shot numbers in agreement (R2, R18, R22, R155). -/

namespace Sys2Proof.Machine

/-! ## The agreement, said of the sequencer and the report store -/

/-- The sequencer agrees with itself, and the report store with it. -/
structure ShotAgrees (q : Sequencer) (r : ReportStore) : Prop where
  seq : SequencerAgrees q
  cur : r.cur = q.st.slot
  room : r.held.length + r.cur.taken ≤ 16
  held : r.numbers.Nodup
  fill : r.cur = .filling → r.fill.shotNo ∉ r.numbers

/-- The sequencer and the report store of a state agree. -/
def State.ShotAgrees (s : State) : Prop := Machine.ShotAgrees s.seq s.rep

theorem shotAgrees_iff (s : State) :
    s.ShotAgrees ↔ SequencerAgrees s.seq ∧ NumbersDistinct s :=
  ⟨fun ⟨seq, cur, room, held, fill⟩ => ⟨seq, ⟨cur, room⟩, held, fill⟩,
   fun ⟨seq, ⟨cur, room⟩, held, fill⟩ => ⟨seq, cur, room, held, fill⟩⟩

/-- A report store with the same held reports and slot, whose report being filled has the same number. -/
structure ReportStore.SameNumbers (r r' : ReportStore) : Prop where
  held : r'.held = r.held
  cur : r'.cur = r.cur
  fill : r'.fill.shotNo = r.fill.shotNo

theorem ShotAgrees.store {q : Sequencer} {r r' : ReportStore} (h : ShotAgrees q r)
    (same : r.SameNumbers r') : ShotAgrees q r' := by
  obtain ⟨held, cur, fill⟩ := same
  have numbers : r'.numbers = r.numbers := by simp [ReportStore.numbers, held]
  obtain ⟨hseq, hcur, hroom, hheld, hfill⟩ := h
  exact ⟨hseq, by rw [cur, hcur], by rw [held, cur]; exact hroom, by rw [numbers]; exact hheld,
    by rw [cur, numbers, fill]; exact hfill⟩

/-- A sequencer that stands in the same state. -/
theorem ShotAgrees.sequencer {q q' : Sequencer} {r : ReportStore} (h : ShotAgrees q r)
    (seq : SequencerAgrees q') (st : q'.st.slot = q.st.slot) : ShotAgrees q' r :=
  ⟨seq, by rw [st]; exact h.cur, h.room, h.held, h.fill⟩

theorem State.ShotAgrees.write {s : State} (h : s.ShotAgrees) (f : Report → Report)
    (number : ∀ r, (f r).shotNo = r.shotNo) : (s.write f).ShotAgrees := by
  unfold State.ShotAgrees
  rw [State.write_seq]
  refine ShotAgrees.store h ⟨State.write_held s f, State.write_cur s f, ?_⟩
  rw [State.write_fill]
  split
  · exact number _
  · rfl

/-! ## The breakers -/

theorem appendOp_shotAgrees (b : BreakerId) (e : OpEntry) {s : State} (h : s.ShotAgrees) :
    (appendOp b e s).ShotAgrees := by
  unfold appendOp
  refine State.ShotAgrees.write ?_ _ fun _ => rfl
  exact h

theorem completeOpen_shotAgrees (b : BreakerId) (op : Operation) {s : State} (h : s.ShotAgrees) :
    (completeOpen b op s).ShotAgrees :=
  appendOp_shotAgrees b _ (s := setBreaker b .opened none s) h

theorem completeClose_shotAgrees (b : BreakerId) (op : Operation) {s : State} (h : s.ShotAgrees) :
    (completeClose b op s).ShotAgrees :=
  appendOp_shotAgrees b _ (s := setBreaker b .closed none s) h

theorem beginOpen_shotAgrees (b : BreakerId) (t : Time) (c : CmdCause) (r : Option Time) {s : State}
    (h : s.ShotAgrees) : (beginOpen b t c r s).1.ShotAgrees := by
  unfold beginOpen
  dsimp only
  split
  · exact completeOpen_shotAgrees b _ (s := State.refreshOutputs _) h
  · exact h

theorem beginClose_shotAgrees (b : BreakerId) (t : Time) (c : CmdCause) {s : State}
    (h : s.ShotAgrees) : (beginClose b t c s).1.ShotAgrees := by
  unfold beginClose
  dsimp only
  split
  · exact completeClose_shotAgrees b _ (s := State.refreshOutputs _) h
  · exact h

theorem tripBreaker_shotAgrees (b : BreakerId) (t : Time) (c : CmdCause) {s : State}
    (h : s.ShotAgrees) : (tripBreaker b t c s).1.ShotAgrees := by
  unfold tripBreaker
  dsimp only
  split
  · exact h
  · split
    · exact beginOpen_shotAgrees b t c _ h
    · exact beginOpen_shotAgrees b t c _ h
    · exact appendOp_shotAgrees b _ h
    · exact appendOp_shotAgrees b _ h

theorem closeBreaker_shotAgrees (b : BreakerId) (t : Time) (c : CmdCause) {s : State}
    (h : s.ShotAgrees) : (closeBreaker b t c s).1.ShotAgrees := by
  unfold closeBreaker
  dsimp only
  split
  · exact h
  · split
    · split
      · exact appendOp_shotAgrees b _ h
      · exact beginClose_shotAgrees b t c h
    all_goals exact appendOp_shotAgrees b _ h

/-! ## The shot number of a start (R22) -/

/-- Sixteen numbers in the order 1, 2, ..., 65,535, 1. -/
theorem nextNumber_range (n : Nat) : 1 ≤ nextNumber n ∧ nextNumber n ≤ 65535 := by
  unfold nextNumber
  split <;> omega

/-- The number `k` places behind the next one. -/
theorem iterate_nextNumber (k n : Nat) :
    nextNumber^[k] (nextNumber n) = (nextNumber n - 1 + k) % 65535 + 1 := by
  have range := nextNumber_range n
  generalize nextNumber n = m at range ⊢
  induction k with
  | zero => simp; omega
  | succ k ih =>
    rw [Function.iterate_succ_apply', ih]
    unfold nextNumber
    split <;> omega

/-- The numbers that the search goes through. -/
def candidates (fuel n : Nat) : List Nat := (List.range fuel).map fun k => nextNumber^[k] (nextNumber n)

theorem candidates_succ (fuel n : Nat) :
    candidates (fuel + 1) n = nextNumber n :: candidates fuel (nextNumber n) := by
  simp [candidates, List.range_succ_eq_map, Function.comp_def, Function.iterate_succ_apply]

theorem candidates_nodup (fuel n : Nat) (small : fuel ≤ 65535) : (candidates fuel n).Nodup := by
  refine List.Nodup.map_on (fun i hi j hj same => ?_) List.nodup_range
  rw [iterate_nextNumber, iterate_nextNumber] at same
  rw [List.mem_range] at hi hj
  omega

/-- A search that ends on a held number has met held numbers only. -/
theorem candidates_held (held : List HeldReport) (fuel n : Nat)
    (taken : ∃ h ∈ held, h.report.shotNo = freeNumber held fuel n) :
    candidates (fuel + 1) n ⊆ held.map fun h => h.report.shotNo := by
  induction fuel generalizing n with
  | zero =>
    intro m hm
    obtain rfl : m = nextNumber n := by simpa [candidates] using hm
    simpa [freeNumber] using taken
  | succ fuel ih =>
    unfold freeNumber at taken
    split at taken
    case isTrue met =>
      rw [candidates_succ]
      refine List.cons_subset.2 ⟨by simpa using met, ih _ taken⟩
    case isFalse free => exact absurd (by simpa using taken) free

/-- With fewer than sixteen reports held a free number is found (R22). -/
theorem freeNumber_free (held : List HeldReport) (n : Nat) (room : held.length ≤ 16) :
    freeNumber held 16 n ∉ held.map fun h => h.report.shotNo := by
  intro taken
  have all := candidates_held held 16 n (by simpa using taken)
  have few := (List.subperm_of_subset (candidates_nodup 17 n (by omega)) all).length_le
  simp [candidates] at few
  omega

/-! ## What stops, starts and finalization leave of the sequencer and the store -/

theorem recordEnd_seq (s : State) (r : EndReason) (t : Time) :
    (s.recordEnd r t).seq = { s.seq with endReason := some r, stopBegin := t } := State.write_seq _ _

theorem softStop_seq (s : State) (r : EndReason) (t : Time) : (s.softStop r t).seq =
    { s.seq with endReason := some r, stopBegin := t, pend := none, durationDue := none,
                 dwellDue := none, st := .stopping } := by
  unfold State.softStop
  dsimp only
  rw [recordEnd_seq]
  rfl

/-- Writes of a report that keep its number. -/
theorem write_sameNumbers (s : State) (f : Report → Report) (number : ∀ r, (f r).shotNo = r.shotNo) :
    s.rep.SameNumbers (s.write f).rep := by
  refine ⟨State.write_held s f, State.write_cur s f, ?_⟩
  rw [State.write_fill]
  split
  · exact number _
  · rfl

theorem recordEnd_sameNumbers (s : State) (r : EndReason) (t : Time) :
    s.rep.SameNumbers (s.recordEnd r t).rep :=
  write_sameNumbers { s with seq := { s.seq with endReason := some r, stopBegin := t } } _ fun _ => rfl

/-- The further causes have no part in the agreement. -/
theorem SequencerAgrees.further {q : Sequencer} (h : SequencerAgrees q) (l : List HardCause) :
    SequencerAgrees { q with further := l } :=
  ⟨h.commit, h.pend, h.duration, h.dwell, h.tail, h.ended, h.due⟩

/-- Nor has what is loaded. -/
theorem SequencerAgrees.loaded {q : Sequencer} (h : SequencerAgrees q)
    (table : Bank (Option StateRecord) 24) (header : Header) :
    SequencerAgrees { q with table, header } :=
  ⟨h.commit, h.pend, h.duration, h.dwell, h.tail, h.ended, h.due⟩

theorem addFurther_sameNumbers (s : State) (c : HardCause) :
    s.rep.SameNumbers (s.addFurther c).rep := by
  unfold State.addFurther
  split
  · exact ⟨rfl, rfl, rfl⟩
  · exact write_sameNumbers { s with seq := { s.seq with further := s.seq.further ++ [c] } } _ fun _ => rfl

theorem addFurther_seq (s : State) (c : HardCause) : (s.addFurther c).seq =
    { s.seq with further := if s.seq.further.contains c then s.seq.further else s.seq.further ++ [c] } := by
  unfold State.addFurther
  split
  · rfl
  · exact State.write_seq _ _

/-- In the FILLING slot a write changes the report being filled (R161). -/
theorem write_filling {s : State} (filling : s.rep.cur = .filling) (f : Report → Report) :
    s.write f = { s with rep := { s.rep with fill := f s.rep.fill } } := by
  rw [State.write_eq, if_pos filling]

/-- The report that finalization holds (R37, R113, R159, R161). -/
def finalReport (t : Time) (s : State) : Report :=
  completeReport s t { s.rep.fill with
    timers := (s.tmr.map (Timer.result s.seq.t0)).items
    grades := gradeAll { s with tmr := s.tmr.map Timer.close } }

theorem finalize_seq (t : Time) (s : State) :
    (finalize t s).seq = { s.seq.endContext with st := .ready } := by
  simp [finalize, leaveTail, holdReport, writeGrades, closeTimers]

theorem finalize_rep (t : Time) {s : State} (filling : s.rep.cur = .filling) :
    (finalize t s).rep = { s.rep with
      held := s.rep.held ++ [{ report := finalReport t s, unread := true }], cur := .noSlot,
      fill := .empty } := by
  have timers : closeTimers s = { s with
      tmr := s.tmr.map Timer.close
      rep := { s.rep with fill := { s.rep.fill with
        timers := (s.tmr.map (Timer.result s.seq.t0)).items } } } :=
    write_filling (s := { s with tmr := s.tmr.map Timer.close }) filling _
  have grades : writeGrades (closeTimers s) = { closeTimers s with
      rep := { (closeTimers s).rep with fill := { (closeTimers s).rep.fill with
        grades := gradeAll (closeTimers s) } } } :=
    write_filling (by rw [timers]; exact filling) _
  have held (u : State) (hu : u.rep.cur = .filling) : (leaveTail (holdReport t u)).rep =
      { u.rep with held := u.rep.held ++ [{ report := completeReport u t u.rep.fill, unread := true }],
                   cur := .noSlot, fill := .empty } := by
    unfold leaveTail holdReport
    rw [write_filling hu]
    simp [ReportStore.hold, hu]
  unfold finalize
  rw [held _ (by rw [grades, timers]; exact filling), grades, timers]
  rfl
/-- A stop in RUNNING: nothing waits any longer, and the end reason is recorded (R32, R34, R35). -/
theorem softStop_shotAgrees (r : EndReason) (t : Time) {s : State} (h : s.ShotAgrees)
    (running : s.seq.st = .running) : (s.softStop r t).ShotAgrees := by
  unfold State.ShotAgrees
  rw [softStop_seq]
  have store : s.rep.SameNumbers (s.softStop r t).rep := recordEnd_sameNumbers s r t
  have commit := h.seq.commit
  have tail := h.seq.tail
  have due := h.seq.due
  rw [running] at commit tail due
  refine (h.sequencer ?_ ?_).store store
  · constructor <;> simp_all
  · rw [running]; rfl

theorem hardStop_shotAgrees (c : HardCause) (t : Time) {s : State} (h : s.ShotAgrees) :
    (s.hardStop c t).ShotAgrees := by
  have commit := h.seq.commit
  have due := h.seq.due
  unfold State.hardStop
  split
  case h_1 running =>
    have store : s.rep.SameNumbers (s.recordEnd (.hard c) t).rep := recordEnd_sameNumbers s _ t
    change Machine.ShotAgrees { (s.recordEnd (.hard c) t).seq.halt with st := _, tailDue := _ }
      (s.recordEnd (.hard c) t).rep
    rw [recordEnd_seq]
    rw [running] at commit due
    refine (h.sequencer ?_ (by rw [running]; rfl)).store store
    constructor <;> simp_all [Sequencer.halt]
  case h_2 stopping =>
    change Machine.ShotAgrees { (s.addFurther c).seq with st := _, tailDue := _ } (s.addFurther c).rep
    rw [addFurther_seq]
    obtain ⟨-, pend, duration, dwell, tail, ended, -⟩ := h.seq
    rw [stopping] at commit due pend duration dwell tail ended
    refine (h.sequencer ?_ (by rw [stopping]; rfl)).store (addFurther_sameNumbers s c)
    constructor <;> simp_all
  case h_3 inTail =>
    change Machine.ShotAgrees (s.addFurther c).seq (s.addFurther c).rep
    rw [addFurther_seq]
    refine (h.sequencer ?_ ?_).store (addFurther_sameNumbers s c)
    · exact h.seq.further _
    · rfl
  all_goals exact h

theorem addFurther_shotAgrees (c : HardCause) {s : State} (h : s.ShotAgrees) :
    (s.addFurther c).ShotAgrees := by
  unfold State.ShotAgrees
  rw [addFurther_seq]
  refine (h.sequencer ?_ ?_).store (addFurther_sameNumbers s c)
  · exact h.seq.further _
  · rfl

theorem enterTail_shotAgrees (t : Time) {s : State} (h : s.ShotAgrees) (stopping : s.seq.st = .stopping) :
    (s.enterTail t).ShotAgrees := by
  obtain ⟨commit, pend, duration, dwell, tail, ended, due⟩ := h.seq
  rw [stopping] at commit due pend duration dwell tail ended
  refine h.sequencer ?_ (by rw [stopping]; rfl)
  constructor <;> simp_all [State.enterTail]

/-- The end of a context in READY (R21, R37). -/
theorem endContext_agrees {q : Sequencer} (h : SequencerAgrees q) (committed : q.st ≠ .empty)
    (why : CancelReason) : SequencerAgrees { q.endContext with st := .ready, cancel := why } := by
  have commit := h.commit.2 committed
  constructor <;> simp [Sequencer.endContext, commit]

theorem endArm_shotAgrees (why : CancelReason) {s : State} (h : s.ShotAgrees)
    (armed : s.seq.st = .armed) : (s.endArm why).ShotAgrees where
  seq := endContext_agrees h.seq (by simp [armed]) why
  cur := rfl
  room := by
    have := h.room
    change s.rep.held.length + 0 ≤ 16
    omega
  held := h.held
  fill := fun f => by cases f

theorem finalize_shotAgrees (t : Time) {s : State} (h : s.ShotAgrees) (inTail : s.seq.st = .tail) :
    (finalize t s).ShotAgrees := by
  have filling : s.rep.cur = .filling := by rw [h.cur, inTail]; rfl
  have room := h.room
  rw [filling] at room
  have fresh : (finalReport t s).shotNo ∉ s.rep.numbers := h.fill filling
  unfold State.ShotAgrees
  rw [finalize_seq, finalize_rep t filling]
  refine ⟨endContext_agrees h.seq (by simp [inTail]) s.seq.cancel, rfl, ?_, ?_, fun f => by cases f⟩
  · simpa [CurSlot.taken] using room
  · have all := List.Nodup.append h.held (List.nodup_singleton (finalReport t s).shotNo)
      (List.disjoint_singleton.2 fresh)
    simpa [ReportStore.numbers] using all

theorem enterState_seq (i : StateIdx) (reset : Bool) (c : Cause) (a p : Bool) (tick : Time) (s : State) :
    (enterState i reset c a p tick s).seq = { s.seq with
      inForce := some i, pend := none, durationDue := (s.seq.record i).durationFrom tick, rampSteps := 0,
      dwellDue := (s.seq.record i).dwellFrom tick } := by
  unfold enterState writeTrail
  exact State.write_seq _ _

/-- The blocks of a state entry, before its trail entry is written (R28). -/
def enteredBlocks (i : StateIdx) (reset : Bool) (tick : Time) (s : State) : State :=
  (loadChannels (s.seq.record i) reset { s with seq := { s.seq with
    inForce := some i, pend := none, durationDue := (s.seq.record i).durationFrom tick, rampSteps := 0,
    dwellDue := (s.seq.record i).dwellFrom tick } }).refreshOutputs

theorem enterState_eq (i : StateIdx) (reset : Bool) (c : Cause) (a p : Bool) (tick : Time) (s : State) :
    enterState i reset c a p tick s =
      writeTrail { state := i, tag := (s.seq.record i).tag, time := relative s.seq.t0 tick, cause := c,
                   angleMissed := a, ppsMissed := p, superseded := false }
        (enteredBlocks i reset tick s) := rfl

theorem writeTrail_sameNumbers (e : TrailEntry) (s : State) :
    s.rep.SameNumbers (writeTrail e s).rep := write_sameNumbers s _ fun _ => rfl

theorem enterState_sameNumbers (i : StateIdx) (reset : Bool) (c : Cause) (a p : Bool) (tick : Time)
    (s : State) : s.rep.SameNumbers (enterState i reset c a p tick s).rep :=
  writeTrail_sameNumbers _ (enteredBlocks i reset tick s)

/-- A state entry in RUNNING (R28). -/
theorem enterState_shotAgrees (i : StateIdx) (reset : Bool) (c : Cause) (a p : Bool) (tick : Time)
    {s : State} (h : s.ShotAgrees) (running : s.seq.st = .running) :
    (enterState i reset c a p tick s).ShotAgrees := by
  unfold State.ShotAgrees
  rw [enterState_seq]
  refine (h.sequencer ?_ ?_).store (enterState_sameNumbers ..)
  · exact { h.seq with pend := fun _ => running, duration := fun _ => running, dwell := fun _ => running }
  · rfl

theorem begunShot_shotAgrees (t0 : Time) (src : StartSource) {s : State} (h : s.ShotAgrees)
    (armed : s.seq.st = .armed) : (begunShot t0 src s).ShotAgrees := by
  have reserved : s.rep.cur = .reserved := by rw [h.cur, armed]; rfl
  have room := h.room
  rw [reserved] at room
  obtain ⟨commit, pend, duration, dwell, tail, ended, due⟩ := h.seq
  rw [armed] at commit pend duration dwell tail ended
  refine enterState_shotAgrees _ _ _ _ _ _ ⟨?_, rfl, room, h.held, fun _ => ?_⟩ rfl
  · constructor <;> simp_all [clearShot, beginReport]
  · exact freeNumber_free s.rep.held s.seq.shotNo (by simp [CurSlot.taken] at room; omega)

/-! ## What the messages leave -/

theorem withdraw_shotAgrees {s : State} (h : s.ShotAgrees) (editable : s.seq.st.editable = true)
    {u : State} (seq : SequencerAgrees { u.seq with commit := false, st := .empty })
    (same : s.rep.SameNumbers u.rep) : u.withdraw.ShotAgrees := by
  refine (h.sequencer seq ?_).store same
  cases st : s.seq.st <;> simp_all [SeqState.editable, SeqState.slot]

theorem editable_agrees {q : Sequencer} (h : SequencerAgrees q) (editable : q.st.editable = true)
    (commit : Bool) (st : SeqState) (ready : st = .empty ∧ commit = false ∨ st = .ready ∧ commit = true) :
    SequencerAgrees { q with commit, st } := by
  obtain ⟨-, pend, duration, dwell, tail, ended, due⟩ := h
  cases was : q.st <;> simp [was, SeqState.editable] at editable pend duration dwell tail ended due <;>
    rcases ready with ⟨rfl, rfl⟩ | ⟨rfl, rfl⟩ <;> constructor <;> simp_all

theorem commit_shotAgrees (header : Header) {s : State} (h : s.ShotAgrees)
    (editable : s.seq.st.editable = true) : (s.commit header).ShotAgrees := by
  refine h.sequencer
    (editable_agrees (h.seq.loaded s.seq.table header) editable true .ready (.inr ⟨rfl, rfl⟩)) ?_
  change SeqState.slot .ready = _
  cases st : s.seq.st <;> simp_all [SeqState.editable, SeqState.slot]

/-- A counted set that is empty leaves a slot FREE (R152, R155). -/
theorem held_lt_of_countedSet {src : StartSource} {s : State} (clear : countedSet src s = []) :
    s.rep.held.length < 16 := by
  by_contra full
  have active : RejectSource.reportFull ∈ countedSet src s := by
    have counts : counted src .reportFull = true := by cases src <;> rfl
    have source : RejectSource.reportFull ∈ rejectSources := by simp [rejectSources]
    simp [countedSet, rejectSet, counts, source, rejectActive]
    omega
  rw [clear] at active
  cases active

theorem armed_shotAgrees (src : StartSource) {s : State} (h : s.ShotAgrees) (ready : s.seq.st = .ready)
    (clear : countedSet src s = []) : (s.arm src).ShotAgrees where
  seq := by
    have commit := h.seq.commit.2 (by simp [ready])
    constructor <;> simp [State.arm, Sequencer.endContext, commit]
  cur := rfl
  room := by
    have := held_lt_of_countedSet clear
    change s.rep.held.length + 1 ≤ 16
    omega
  held := h.held
  fill := fun f => by cases f

/-- Reports that are freed (R171). -/
theorem ShotAgrees.fewer {q : Sequencer} {r : ReportStore} (h : ShotAgrees q r) (held : List HeldReport)
    (sub : held.Sublist r.held) : ShotAgrees q { r with held } where
  seq := h.seq
  cur := h.cur
  room := by have := h.room; have := sub.length_le; dsimp only; omega
  held := h.held.sublist (sub.map _)
  fill filling m := h.fill filling ((sub.map _).subset m)

theorem markRead_shotAgrees (n : Nat) {s : State} (h : s.ShotAgrees) :
    State.ShotAgrees { s with rep := s.rep.markRead n } := by
  have numbers : (s.rep.markRead n).numbers = s.rep.numbers := by
    simp only [ReportStore.numbers, ReportStore.markRead, List.map_map]
    refine List.map_congr_left fun r _ => ?_
    dsimp only [Function.comp]
    split <;> rfl
  refine ⟨h.seq, h.cur, ?_, ?_, fun filling => ?_⟩
  · have := h.room
    simpa [ReportStore.markRead] using this
  · rw [numbers]; exact h.held
  · rw [numbers]; exact h.fill filling

/-! ## The pieces -/

/-- The pieces of events and the effects of messages keep the agreement. -/
theorem shotAgrees_keptByEffects : KeptByEffects State.ShotAgrees where
  goto _ _ _ _ h running _ := h.sequencer { h.seq with pend := fun _ => running } rfl
  endShot _ _ h running := softStop_shotAgrees _ _ h running
  startTimer s m c r h := by
    unfold startTimer
    dsimp only
    repeat' split
    all_goals exact h
  stopTimer s m c r h := by
    unfold stopTimer
    dsimp only
    repeat' split
    all_goals exact h
  trip _ _ _ _ h := tripBreaker_shotAgrees _ _ _ h
  close _ _ _ _ h := closeBreaker_shotAgrees _ _ _ h
  mark _ _ h := h.write _ fun _ => rfl
  log _ _ _ _ h := h.write _ fun _ => rfl
  chainLimit _ h := h.write _ fun _ => rfl
  count _ _ _ h := h
  now _ _ h := h
  clock _ _ h := h
  raise _ k h := h
  inputs _ _ h := h
  timers _ _ h := h
  timeBase _ _ h := h
  supervision _ _ h := h
  outlets _ _ _ h := h
  sample _ t h := endStopping_keeps h fun stopping => enterTail_shotAgrees t h stopping
  flag _ _ h := h.write _ fun _ => rfl
  startDue _ _ _ h armed := h.sequencer { h.seq with due := fun _ => armed } rfl
  endArm _ why h armed := endArm_shotAgrees why h armed
  begun _ t0 src h armed := begunShot_shotAgrees t0 src h armed
  request _ _ _ _ h running := h.sequencer { h.seq with pend := fun _ => running } rfl
  endWait _ _ h running := h.sequencer { h.seq with pend := fun _ => running } rfl
  noDuration _ h := h.sequencer { h.seq with duration := fun d => absurd rfl d } rfl
  superseded _ h := h.write _ fun _ => by split <;> rfl
  dwell _ _ _ h running := h.sequencer { h.seq with dwell := fun _ => running } rfl
  enter _ _ _ _ _ _ _ h running := enterState_shotAgrees _ _ _ _ _ _ h running
  softStop _ _ _ h running := softStop_shotAgrees _ _ h running
  hardStop _ c t h := hardStop_shotAgrees c t h
  addFurther _ c h _ := addFurther_shotAgrees c h
  cut s t h stopping := by
    unfold cutAt State.flag
    refine enterTail_shotAgrees t (State.ShotAgrees.write ?_ _ fun _ => rfl) ?_
    · exact h
    · simpa using stopping
  finalize s t h inTail := finalize_shotAgrees t h inTail
  opened _ b op h _ _ _ := completeOpen_shotAgrees b op h
  closed _ b op h _ _ _ := completeClose_shotAgrees b op h
  freeCount _ _ h := h
  edit _ table header _ _ _ h editable := withdraw_shotAgrees h editable
    (editable_agrees (h.seq.loaded table header) editable false .empty (.inl ⟨rfl, rfl⟩)) ⟨rfl, rfl, rfl⟩
  breaker _ _ _ h editable := withdraw_shotAgrees h editable
    (editable_agrees h.seq editable false .empty (.inl ⟨rfl, rfl⟩)) ⟨rfl, rfl, rfl⟩
  commit _ _ h editable := commit_shotAgrees _ h editable
  arm _ src h ready clear := armed_shotAgrees src h ready clear
  markRead _ n h := markRead_shotAgrees n h
  releaseRead _ h := ShotAgrees.fewer h _ List.filter_sublist
  release _ _ h := ShotAgrees.fewer h _ List.filter_sublist

/-- The values of a reset: EMPTY, and no report (R1, R155). -/
theorem initial_shotAgrees (shotNo : Nat) (t0 : Time) :
    ShotAgrees { Sequencer.initial with shotNo, t0 } .initial := by
  refine ⟨?_, rfl, by decide, List.nodup_nil, fun f => by cases f⟩
  constructor <;> simp [Sequencer.initial]

theorem shotAgrees_keptByCommands : KeptByCommands State.ShotAgrees :=
  shotAgrees_keptByEffects.keptByCommands ⟨fun _ _ h => h, fun _ _ h => h, fun _ _ h => h⟩
    (fun _ _ _ => initial_shotAgrees 0 0) (fun _ _ => initial_shotAgrees 0 0)
    (fun s h => by
      have same : s.lose.ShotAgrees = s.interruptWrite.ShotAgrees := rfl
      rw [same, (interruptWrite_eq s).2.2]
      exact h)
    (fun s _ => initial_shotAgrees s.seq.shotNo s.seq.t0) (fun _ _ h => h)

/-- Settles O56: the agreement is kept by every command. -/
theorem everyStepKeepsTheSequencerInAgreement : Obligations.EveryStepKeepsTheSequencerInAgreement := by
  intro s t h e
  rw [← shotAgrees_iff] at h ⊢
  exact shotAgrees_keptByCommands.step (fun _ _ h => h) h e

end Sys2Proof.Machine
end

section
/-! PROOFS. Every step keeps the inputs in agreement with their debounce windows, the time base with L, and
the thermal accounts within their capacities (R71 to R76, R132, R142): which pieces of a command touch the
inputs, the time base, the supervision and the calibration, and that each piece keeps its agreement. -/

namespace Sys2Proof.Machine

/-! ## The entry of HOLDOVER (R135) -/

theorem holdoverEntry_locked {s : State} {l d : Time} (locked : s.tb.sync = .locked)
    (latest : s.tb.latest = some l) (hd : d = after l 1000201) : holdoverEntry s =
      State.raise { s.advance d with tb := { (s.advance d).tb with sync := .holdover } } .syncChanged := by
  subst hd
  unfold holdoverEntry
  rw [locked, latest]
theorem holdoverEntry_cases (s : State) : holdoverEntry s = s ∨ ∃ l d, s.tb.latest = some l ∧
    holdoverEntry s =
      State.raise { s.advance d with tb := { (s.advance d).tb with sync := .holdover } } .syncChanged := by
  by_cases locked : s.tb.sync = .locked
  · cases latest : s.tb.latest with
    | none => exact .inl (by unfold holdoverEntry; simp [latest])
    | some l =>
      obtain ⟨d, hd⟩ : ∃ d, d = after l 1000201 := ⟨_, rfl⟩
      exact .inr ⟨l, d, rfl, holdoverEntry_locked locked latest hd⟩
  · exact .inl (by unfold holdoverEntry; simp [locked])

/-! ## What touches the inputs, the time base, the supervision and the calibration -/

/-- `t` has the inputs, the time base, the supervision and the calibration of `s`. -/
structure SameSide (s t : State) : Prop where
  inp : t.inp = s.inp
  tb : t.tb = s.tb
  sup : t.sup = s.sup
  cal : t.cal = s.cal

theorem SameAround.side {s t : State} (h : SameAround s t) : SameSide s t := ⟨h.inp, h.tb, h.sup, h.cal⟩

theorem SameOutside.side {s t : State} (h : SameOutside s t) : SameSide s t := h.around.side

/-- An input whose qualified level takes the raw level (R71). -/
def Input.qualified (edges : Nat) (i : Input) : Input := { i with qual := i.raw, edges }

/-- A property that each piece which touches those blocks keeps, with what the piece finds. -/
structure KeptBySide (P : State → Prop) : Prop where
  side : ∀ s t, SameSide s t → P s → P t
  configure : ∀ s k c, P s → P { s with inp := s.inp.modify k (Input.derive c) }
  learning : ∀ s k l, P s → P { s with inp := s.inp.modify k fun i => { i with learn := l } }
  terminal : ∀ s k term, P s → P { s with inp := s.inp.set k { s.inp.get k with term } }
  transition : ∀ s k inShot next r, P s →
    P { s with inp := s.inp.set k ((s.inp.get k).transition inShot next r) }
  windowEnd : ∀ s k edges, P s → (s.inp.get k).window ≠ none →
    P { s with inp := s.inp.set k (({ s.inp.get k with window := none } : Input).qualified edges) }
  leave : ∀ s k, P s → (s.inp.get k).chatter = true → (s.inp.get k).raw = (s.inp.get k).held →
    P { s with inp := s.inp.set k { s.inp.get k with chatter := false } }
  leaveEdge : ∀ s k edges, P s → (s.inp.get k).chatter = true →
    P { s with inp := s.inp.set k (({ s.inp.get k with chatter := false } : Input).qualified edges) }
  nextWindow : ∀ s, P s → P { s with inp := s.inp.map Input.nextWindow }
  read : ∀ s (volts : Bank Nat 10), P s → P { s with inp := s.inp.mapIdx fun k i => i.read (volts.get k) }
  learned : ∀ s k l, P s → P { s with inp := s.inp.set k ((s.inp.get k).learned l) }
  begin : ∀ s, P s → P { s with inp := s.inp.map Input.begin, sup := { s.sup with thermal := beginPeaks s } }
  glitch : ∀ s g, P s → P { s with tb := { s.tb with glitch := g } }
  capture : ∀ s p sync, P s → sync ≠ .noSync → P { s with tb := { s.tb with latest := some p, sync } }
  holdover : ∀ s l, P s → s.tb.latest = some l → P { s with tb := { s.tb with sync := .holdover } }
  fall : ∀ s, P s → P { s with tb := { s.tb with latest := none, sync := .noSync } }
  sag : ∀ s low sag, P s → P { s with sup := { s.sup with low, sag } }
  interlock : ∀ s b, P s → P { s with sup := { s.sup with interlockOpen := b } }
  charge : ∀ s, P s → P { s with sup := { s.sup with thermal := updateThermal s } }
  write : ∀ s (w : CalWrite), P s → P { s with cal := { s.cal with write := some w } }
  writeDone : ∀ s w, P s →
    P { s with cal := s.cal.finish w, sup := { s.sup with thermal := limitHeat w s.sup.thermal } }
  interrupt : ∀ s, P s → P s.interruptWrite
  start : ∀ pins s, P s → P (State.start pins s)
  hold : ∀ s, P s → P s.hold
  engineReset : ∀ s, P s → P s.engineReset

namespace KeptBySide

variable {P : State → Prop} (k : KeptBySide P) {s : State} (h : P s)

include k h

theorem keep {t : State} (same : SameSide s t) : P t := k.side s t same h

theorem advance (t : Time) : P (s.advance t) := k.keep h ⟨rfl, rfl, rfl, rfl⟩

theorem raise (n : Notice) : P (s.raise n) := k.keep h ⟨rfl, rfl, rfl, rfl⟩

theorem hardStop (c : HardCause) (t : Time) : P (s.hardStop c t) :=
  k.keep h (SameAround.hardStop s c t).side

theorem rejectRises (r : RejectSource) : P (s.rejectRises r) :=
  k.keep h (SameAround.rejectRises s r).side

theorem route (e : Event) : P (route e s) := k.keep h (SameOutside.route s e).side

/-! ## Events that do not touch them -/

theorem sampleTick : P (sampleTick s) := by
  have resolved (t : Time) (u : State) : SameSide u (resolveTick t u) := by
    unfold resolveTick
    split <;> exact ⟨rfl, rfl, rfl, rfl⟩
  have ended (t : Time) (u : State) : SameSide u (endStopping t u) := by
    unfold endStopping
    repeat' split
    all_goals exact ⟨rfl, rfl, rfl, rfl⟩
  unfold Machine.sampleTick
  split
  · exact h
  · have quiet := k.side _ _ (ended (tickDue s) _) (k.side _ _ (resolved (tickDue s) _) (k.advance h (tickDue s)))
    exact k.keep quiet ⟨rfl, rfl, rfl, rfl⟩

theorem durationExpiry : P (durationExpiry s) := by
  unfold Machine.durationExpiry
  split
  · split
    · exact h
    · exact k.keep (k.advance h _) (SameAround.expire _ _).side
  · exact h

theorem rampStep : P (rampStep s) := by
  unfold Machine.rampStep
  split
  · exact k.keep (k.advance h _) (SameAround.rampStepAt _ _ _).side
  · exact h

theorem transitionEntry : P (transitionEntry s) := by
  unfold Machine.transitionEntry
  split
  · split
    · split
      · exact k.keep (k.advance h _) (SameAround.takeEntry _ _ _ _ _).side
      · exact h
    · exact h
  · exact h

theorem lengthLimit : P (lengthLimit s) := by
  rcases lengthLimit_cases s with same | ⟨-, d, stopped⟩
  · rw [same]; exact h
  · rw [stopped]; exact k.side _ _ (SameAround.softStop _ _ _).side (k.advance h d)

theorem forcedCut : P (forcedCut s) := by
  unfold Machine.forcedCut
  split
  · split
    · exact k.keep (k.advance h _) (SameAround.cutAt _ _).side
    · exact h
  all_goals exact h

theorem tailExpiry : P (tailExpiry s) := by
  unfold Machine.tailExpiry
  split
  · exact k.keep (k.advance h _) (SameAround.finalize _ _).side
  · exact h

theorem settleEnd : P (settleEnd s) := by
  unfold Machine.settleEnd
  split
  · exact h
  · exact k.keep h ⟨rfl, rfl, rfl, rfl⟩

theorem timerTimeout (m : TimerId) : P (timerTimeout m s) := by
  unfold Machine.timerTimeout
  split
  case h_1 d _ _ _ =>
    have expired : P { s.advance d with tmr := s.tmr.modify m Timer.expire } :=
      k.keep h ⟨rfl, rfl, rfl, rfl⟩
    exact k.route expired _
  case h_2 => exact h

theorem openComplete (b : BreakerId) : P (openComplete b s) := by
  unfold Machine.openComplete
  split
  · split
    · exact k.route (k.keep (k.advance h _) (SameOutside.completeOpen _ b _).side) _
    · exact h
  · exact h

theorem closeComplete (b : BreakerId) : P (closeComplete b s) := by
  unfold Machine.closeComplete
  split
  · split
    · exact h
    · exact k.route (k.keep (k.advance h _) (SameOutside.completeClose _ b _).side) _
  · exact h

/-! ## The start of a shot -/

theorem startShot (t0 : Time) (src : StartSource) : P (startShot t0 src s) := by
  have reported : P (beginReport t0 src s) := k.keep h ⟨rfl, rfl, rfl, rfl⟩
  have cleared : P (clearShot (beginReport t0 src s)) := k.keep (k.begin _ reported) ⟨rfl, rfl, rfl, rfl⟩
  have running : P { clearShot (beginReport t0 src s) with
      seq := { (clearShot (beginReport t0 src s)).seq with st := .running }
      clock := { s.clock with anchor := some t0, nextTick := t0 } } := k.keep cleared ⟨rfl, rfl, rfl, rfl⟩
  have entered : P (begunShot t0 src s) := k.keep running (SameAround.enterState ..).side
  have started : P (autoStart t0 (begunShot t0 src s)) := k.keep entered ⟨rfl, rfl, rfl, rfl⟩
  rw [startShot_eq]
  exact k.route (k.route (k.raise started _) _) _

theorem shotStart : P (shotStart s) := by
  unfold Machine.shotStart
  split
  · split
    · exact h
    · exact k.startShot (k.advance h _) _ _
  · exact h

/-! ## The inputs -/

theorem rawTransition (j : InputId) (r : Time) : P (rawTransition j r s) := by
  have moved := k.transition s j s.seq.st.inShot (atOrAfter s.clock.nextChatter r) r h
  unfold Machine.rawTransition
  dsimp only
  split
  · exact k.raise moved _
  · exact moved

theorem terminalChange (j : InputId) (term : Terminal) : P (terminalChange j term s) := by
  have moved := k.terminal s j term h
  unfold Machine.terminalChange
  dsimp only
  split
  · exact k.rawTransition moved _ _
  · exact moved

theorem learningEnd (j : InputId) : P (learningEnd j s) := by
  unfold Machine.learningEnd
  split
  case h_1 l _ =>
    split
    · have learnt := k.learned s j l h
      unfold completeLearning
      dsimp only
      split
      · exact k.raise (k.rawTransition learnt _ _) _
      · exact k.raise learnt _
    · exact h
  case h_2 => exact h

omit k h in
/-- A qualified edge of an input, whose window or chatter status may just have changed to `i`. -/
theorem qualify_side (j : InputId) (time routed : Time) (s : State) (i : Input) : ∃ edges,
    SameSide { s with inp := s.inp.set j (i.qualified edges) }
      (qualify j time routed { s with inp := s.inp.set j i }).1 := by
  have armed (e : Edge) (u : State) : SameSide u (armedEdge j e routed u) := by
    unfold armedEdge
    split
    · split <;> exact ⟨rfl, rfl, rfl, rfl⟩
    · exact ⟨rfl, rfl, rfl, rfl⟩
  have twice (a b : Input) : (s.inp.set j a).set j b = s.inp.set j b := by
    ext m
    by_cases hm : j = m <;> simp [Bank.get_set, hm]
  refine ⟨if s.seq.st.inShot then bump i.edges else i.edges, ?_⟩
  unfold qualify
  dsimp only
  simp only [Bank.get_set_self, twice]
  split
  · exact ⟨rfl, rfl, rfl, rfl⟩
  · exact armed _ _

theorem leaveChatter (j : InputId) (t : Time) : P (leaveChatter j t s).1 := by
  unfold Machine.leaveChatter
  dsimp only
  split
  case isTrue chatter =>
    split
    case isTrue =>
      obtain ⟨edges, same⟩ := qualify_side j t t s { s.inp.get j with chatter := false }
      exact k.side _ _ same (k.leaveEdge s j edges h chatter)
    case isFalse same => exact k.leave s j h chatter (by simpa using same)
  case isFalse => exact h

theorem act (w : Work) : P (w.act s).1 := by
  cases w with
  | route e => exact k.route h e
  | timer m j edge time routed => exact k.keep h (SameOutside.timerEdge s m j edge time routed).side
  | trip b j t => exact k.keep h (SameOutside.tripBreaker s b t _).side
  | close b j t => exact k.keep h (SameOutside.closeBreaker s b t _).side
  | exit j t => exact k.leaveChatter h j t

theorem runWorks (sched : List Nat) (ws : List Work) : P (runWorks sched ws s) :=
  runWork_keeps (P := P) (act := Work.act) (fun w _ hu => k.act hu w) _ _ _ h

theorem debounceEnd (j : InputId) (sched : List Nat) : P (debounceEnd j sched s) := by
  unfold Machine.debounceEnd
  split
  case h_1 => exact h
  case h_2 w opened =>
    obtain ⟨edges, same⟩ := qualify_side j w.opened w.ends (s.advance w.ends)
      { s.inp.get j with window := none }
    have present : (s.inp.get j).window ≠ none := by simp [opened]
    exact k.runWorks (k.side _ _ same (k.windowEnd _ j edges (k.advance h w.ends) present)) _ _

theorem chatterBoundary (sched : List Nat) : P (chatterBoundary sched s) := by
  let t := periodicDue 1000000 s.clock.nextChatter s.now
  have begun : P { s.advance t with
      inp := s.inp.map Input.nextWindow
      clock := { s.clock with nextChatter := nextMultiple 1000000 t } } :=
    k.keep (k.nextWindow _ (k.advance h t)) ⟨rfl, rfl, rfl, rfl⟩
  exact k.runWorks begun _ _

/-! ## Supervision and the time base -/

theorem sagOnset (t : Time) : P (sagOnset t s) := by
  have risen := k.rejectRises h .supplySag
  unfold Machine.sagOnset
  dsimp only
  split
  · have flagged := k.keep risen (SameOutside.flag _ fun f => { f with sagSeen := true }).side
    split
    · exact flagged
    · exact k.hardStop flagged _ _
  · exact risen

theorem supplyCheck (low : Bool) (volts : Bank Nat 10) : P (supplyCheck low volts s) := by
  have sag (t : Time) {u : State} (hu : P u) : P (readSag t low u) := by
    unfold readSag
    dsimp only
    split
    · exact k.sagOnset (k.sag u _ _ hu) _
    · exact k.sag u _ _ hu
  let t := periodicDue 1000 s.clock.nextSupply s.now
  have taken : P { s.advance t with clock := { s.clock with nextSupply := nextMultiple 1000 t } } :=
    k.keep h ⟨rfl, rfl, rfl, rfl⟩
  exact k.read _ _ (sag t taken)

theorem supervise (sched : List Nat) : P (supervise sched s) := by
  have notices (a b : Bool) {u : State} (hu : P u) : P (thermalNotices a b u) := by
    cases a <;> cases b
    · exact hu
    · exact k.raise hu _
    · exact k.raise hu _
    · exact k.raise (k.raise hu _) _
  let t := periodicDue 10000 s.clock.nextSupervision s.now
  have charged : P { s.advance t with
      sup := { s.sup with thermal := updateThermal (s.advance t) }
      clock := { s.clock with nextSupervision := nextMultiple 10000 t } } :=
    k.keep (k.charge _ (k.advance h t)) ⟨rfl, rfl, rfl, rfl⟩
  exact runWork_keeps (P := P) (act := overloadStop t) (fun o u hu => k.hardStop hu _ _) _ _ _
    (notices _ _ charged)

theorem interlockOpens (t : Time) : P (interlockOpens t s) := by
  unfold Machine.interlockOpens
  split
  · exact h
  · exact k.hardStop (k.rejectRises (k.raise (k.interlock s true h) _) _) _ _

theorem lossOfSync (b : Sync) : P (lossOfSync b s) := by
  unfold Machine.lossOfSync
  split
  · exact k.rejectRises h _
  · exact h

theorem captured (sync : Sync) (present : sync ≠ .noSync) (p : Time) : P (Machine.capture sync p s) := by
  have taken := k.capture s p sync h present
  unfold Machine.capture
  dsimp only
  split
  · exact taken
  · exact k.raise taken _

theorem handPulse (p : Time) (first : Bool) : P (handPulse p first s) := by
  have counted (u : State) : SameSide u (countPulse p u) := by
    unfold countPulse
    split <;> exact ⟨rfl, rfl, rfl, rfl⟩
  have ended (u : State) : SameSide u (endWait p u) := by
    unfold endWait
    split
    · split <;> exact ⟨rfl, rfl, rfl, rfl⟩
    · exact ⟨rfl, rfl, rfl, rfl⟩
  have entered (u : State) : SameSide u (entryAtPulse p u) := by
    unfold entryAtPulse
    split
    · split
      · exact (SameAround.takeEntry _ _ _ _ _).side
      · exact ⟨rfl, rfl, rfl, rfl⟩
    · exact ⟨rfl, rfl, rfl, rfl⟩
  have handed := k.side _ _ (ended _) (k.side _ _ (counted s) h)
  unfold Machine.handPulse
  dsimp only
  split
  · exact k.side _ _ (entered _) handed
  · exact handed

theorem ppsPulse (p : Time) (first : Bool) : P (ppsPulse p first s) := by
  unfold Machine.ppsPulse
  split
  · exact k.glitch _ _ h
  · exact k.lossOfSync (k.captured h _ (by simp) _) _
  · exact k.lossOfSync (k.captured h _ (by simp) _) _
  · exact k.route (k.handPulse (k.captured h _ (by simp) _) _ _) _

theorem holdoverEntry : P (holdoverEntry s) := by
  rcases holdoverEntry_cases s with same | ⟨l, d, present, entered⟩
  · rw [same]; exact h
  · rw [entered]; exact k.raise (k.holdover _ l (k.advance h d) present) _

theorem fallToNoSync (l : Time) : P (fallToNoSync l s) :=
  k.lossOfSync (k.raise (k.fall _ (k.advance h (after l 5000000))) _) _

theorem syncTimeout : P (syncTimeout s) := by
  unfold Machine.syncTimeout
  split
  · exact k.fallToNoSync h _
  · exact k.fallToNoSync h _
  · exact h

/-! ## Messages and commands -/

theorem editing {α : Type} (operands : Option α) (effect : α → State → State)
    (same : ∀ a, SameSide s (effect a s)) : P (Machine.editing operands effect s).1 := by
  rcases editing_cases operands effect s with e | ⟨-, a, -, e⟩
  · rw [e]; exact h
  · rw [e]; exact k.keep h ⟨(same a).inp, (same a).tb, (same a).sup, (same a).cal⟩

theorem configureBreaker (b : List Byte) : P (configureBreaker b s).1 := by
  unfold Machine.configureBreaker
  repeat' split
  all_goals exact k.keep h ⟨rfl, rfl, rfl, rfl⟩

theorem commitSequence (b : List Byte) : P (commitSequence b s).1 := by
  unfold Machine.commitSequence
  repeat' split
  all_goals exact k.keep h ⟨rfl, rfl, rfl, rfl⟩

theorem setMap (b : List Byte) : P (setMap b s).1 := by
  unfold Machine.setMap
  repeat' split
  all_goals exact k.keep h ⟨rfl, rfl, rfl, rfl⟩

theorem configureInput (b : List Byte) : P (configureInput b s).1 := by
  unfold Machine.configureInput
  split
  · split
    · split
      · exact h
      · exact k.configure _ _ _ h
    · exact h
  · exact h

theorem learnThreshold (b : List Byte) : P (learnThreshold b s).1 := by
  have used : P (useFree b s) := by
    unfold useFree
    split
    · exact k.keep h ⟨rfl, rfl, rfl, rfl⟩
    · exact h
  unfold Machine.learnThreshold
  dsimp only
  split
  · split
    · split
      · exact used
      · exact k.learning _ _ _ used
    · exact used
  · exact h

theorem armShot (b : List Byte) : P (armShot b s).1 := by
  unfold Machine.armShot
  repeat' split
  all_goals exact k.keep h ⟨rfl, rfl, rfl, rfl⟩

theorem disarm : P (disarm s).1 := by
  unfold Machine.disarm
  split
  case h_1 => exact k.keep h ⟨rfl, rfl, rfl, rfl⟩
  all_goals exact h

theorem stopShot : P (stopShot s).1 := by
  unfold Machine.stopShot
  split
  case h_1 => exact k.keep h (SameAround.softStop _ _ _).side
  all_goals exact h

theorem abortShot : P (abortShot s).1 := by
  unfold Machine.abortShot
  split
  case h_1 => exact k.keep h ⟨rfl, rfl, rfl, rfl⟩
  case h_2 => exact k.hardStop h _ _
  case h_3 => exact k.hardStop h _ _
  case h_4 =>
    exact k.keep (k.keep h (SameOutside.addFurther s .abort).side) (SameAround.finalize _ _).side
  all_goals exact h

theorem readReport (b : List Byte) : P (readReport b s).1 := by
  unfold Machine.readReport
  split
  · exact h
  · split
    · exact h
    · dsimp only [results]
      split
      · exact k.keep h ⟨rfl, rfl, rfl, rfl⟩
      · exact h

theorem releaseReport (b : List Byte) : P (releaseReport b s).1 := by
  unfold Machine.releaseReport
  dsimp only
  repeat' split
  all_goals exact k.keep h ⟨rfl, rfl, rfl, rfl⟩

omit h in
/-- Such a property is kept by every command. -/
theorem keptByCommands : KeptByCommands P where
  now _ _ h := k.keep h ⟨rfl, rfl, rfl, rfl⟩
  link _ _ h := k.keep h ⟨rfl, rfl, rfl, rfl⟩
  write _ _ h := k.write _ _ h
  loadState _ _ h := k.editing h _ _ fun _ => ⟨rfl, rfl, rfl, rfl⟩
  clearSequence _ h := k.editing h _ _ fun _ => ⟨rfl, rfl, rfl, rfl⟩
  commitSequence b _ h := k.commitSequence h b
  loadTrigger _ _ h := k.editing h _ _ fun _ => ⟨rfl, rfl, rfl, rfl⟩
  configureTimer _ _ h := k.editing h _ _ fun _ => ⟨rfl, rfl, rfl, rfl⟩
  configureBreaker b _ h := k.configureBreaker h b
  loadCurve _ _ h := k.editing h _ _ fun _ => ⟨rfl, rfl, rfl, rfl⟩
  loadGrade _ _ h := k.editing h _ _ fun _ => ⟨rfl, rfl, rfl, rfl⟩
  setMap b _ h := k.setMap h b
  configureInput b _ h := k.configureInput h b
  learnThreshold b _ h := k.learnThreshold h b
  armShot b _ h := k.armShot h b
  disarm _ h := k.disarm h
  stopShot _ h := k.stopShot h
  abortShot _ h := k.abortShot h
  readReport b _ h := k.readReport h b
  releaseReport b _ h := k.releaseReport h b
  getStatus _ h := k.glitch _ _ h
  start pins s h := k.start pins s h
  hold s h := k.hold s h
  lose s h := k.keep (k.interrupt s h) ⟨rfl, rfl, rfl, rfl⟩
  engineReset s h := k.engineReset s h
  writeDone s w h := k.writeDone s w h
  sampleTick _ h := k.sampleTick h
  shotStart _ h := k.shotStart h
  durationExpiry _ h := k.durationExpiry h
  rampStep _ h := k.rampStep h
  transitionEntry _ h := k.transitionEntry h
  lengthLimit _ h := k.lengthLimit h
  forcedCut _ h := k.forcedCut h
  tailExpiry _ h := k.tailExpiry h
  terminalChange j term _ h := k.terminalChange h j term
  debounceEnd j sched _ h := k.debounceEnd h j sched
  chatterBoundary sched _ h := k.chatterBoundary h sched
  supplyCheck low volts _ h := k.supplyCheck h low volts
  learningEnd j _ h := k.learningEnd h j
  supervise sched _ h := k.supervise h sched
  interlockOpens t _ h := k.interlockOpens h t
  interlockCloses _ h := k.interlock _ _ h
  ppsPulse t first _ h := k.ppsPulse h t first
  holdoverEntry _ h := k.holdoverEntry h
  syncTimeout _ h := k.syncTimeout h
  settleEnd _ h := k.settleEnd h
  timerTimeout m _ h := k.timerTimeout h m
  openComplete b _ h := k.openComplete h b
  closeComplete b _ h := k.closeComplete h b

end KeptBySide

end Sys2Proof.Machine
end

section
/-! PROOFS. The agreements of the inputs, of the time base and of the thermal accounts under each piece that
touches them, and with that under every step (R71 to R76, R132, R142, R143, R147). -/

namespace Sys2Proof.Machine

/-! ## Debounce windows (R71, R72, R75, R76) -/

/-- Fields that the agreement does not read leave it. -/
theorem InputAgrees.congr {i j : Input} (h : InputAgrees i) (chatter : j.chatter = i.chatter)
    (window : j.window = none ↔ i.window = none) (raw : j.raw = i.raw) (qual : j.qual = i.qual)
    (held : j.held = i.held) : InputAgrees j where
  normal n := by rw [window, raw, qual]; exact h.normal (chatter ▸ n)
  chattering c := by
    obtain ⟨closed, keeps⟩ := h.chattering (chatter ▸ c)
    exact ⟨window.2 closed, by rw [qual, held, keeps]⟩

/-- NORMAL, with the qualified level at the raw level and no window. -/
theorem InputAgrees.settled {i : Input} (chatter : i.chatter = false) (window : i.window = none)
    (same : i.raw = i.qual) : InputAgrees i where
  normal _ := by simp [window, same]
  chattering c := by simp [chatter] at c

/-- The raw level is reversed (R70). -/
def Input.reversed (next : Bool) (i : Input) : Input := { i with raw := !i.raw }.tally next

theorem Input.reversed_raw (next : Bool) (i : Input) : (i.reversed next).raw = !i.raw := by
  cases next <;> rfl

theorem Input.reversed_qual (next : Bool) (i : Input) : (i.reversed next).qual = i.qual := by
  cases next <;> rfl

theorem Input.reversed_window (next : Bool) (i : Input) : (i.reversed next).window = i.window := by
  cases next <;> rfl

theorem Input.reversed_chatter (next : Bool) (i : Input) : (i.reversed next).chatter = i.chatter := by
  cases next <;> rfl

theorem Input.reversed_held (next : Bool) (i : Input) : (i.reversed next).held = i.held := by
  cases next <;> rfl

/-- Bounces are counts alone. -/
theorem Input.bounce_eq (inShot : Bool) (n : Nat) (i : Input) :
    i.bounce inShot n = { i with bounces := if inShot then min (i.bounces + n) 65535 else i.bounces } := by
  cases inShot <;> rfl

/-- A raw transition keeps the agreement: it is a bounce in CHATTER, it enters CHATTER with the qualified
level held, or it opens or closes the window (R70 to R72, R75). -/
theorem InputAgrees.transition {i : Input} (h : InputAgrees i) (inShot next : Bool) (r : Time) :
    InputAgrees (i.transition inShot next r) := by
  change InputAgrees (if (i.reversed next).chatter then (i.reversed next).bounce inShot 1
    else if (i.reversed next).exceeds next then (i.reversed next).enterChatter inShot
    else (i.reversed next).debounce inShot r)
  rw [Input.reversed_chatter]
  split
  case isTrue chatter =>
    obtain ⟨closed, keeps⟩ := h.chattering chatter
    rw [Input.bounce_eq]
    refine ⟨fun n => ?_, fun _ => ⟨?_, ?_⟩⟩
    · simp [Input.reversed_chatter, chatter] at n
    · simpa [Input.reversed_window] using closed
    · simpa [Input.reversed_qual, Input.reversed_held] using keeps
  case isFalse normal =>
    have windows := h.normal (by simpa using normal)
    split
    · refine ⟨fun n => by simp [Input.enterChatter] at n, fun _ => ⟨rfl, ?_⟩⟩
      simp [Input.enterChatter, Input.bounce_eq]
    · unfold Input.debounce
      split
      case h_1 w opened =>
        have differ : i.raw ≠ i.qual := fun same => by
          rw [Input.reversed_window, windows.2 same] at opened
          cases opened
        refine InputAgrees.settled ?_ rfl ?_
        · simpa [Input.bounce_eq, Input.reversed_chatter] using normal
        · simp only [Input.bounce_eq, Input.reversed_raw, Input.reversed_qual]
          cases hr : i.raw <;> cases hq : i.qual <;> simp_all
      case h_2 closed =>
        have same : i.raw = i.qual := windows.1 (by rw [← Input.reversed_window next]; exact closed)
        refine ⟨fun _ => ?_, fun c => ?_⟩
        · simp [Input.reversed_raw, Input.reversed_qual, same]
        · simp [Input.reversed_chatter] at c
          exact absurd c normal

/-- Every input agrees with its debounce window. -/
def State.InputsAgree (s : State) : Prop := ∀ k, InputAgrees (s.inp.get k)

theorem State.InputsAgree.set {s : State} (h : s.InputsAgree) (k : InputId) (i : Input)
    (agrees : InputAgrees i) : State.InputsAgree { s with inp := s.inp.set k i } := by
  intro j
  simp only [Bank.get_set]
  split
  · exact agrees
  · exact h j

theorem inputsAgree_keptBySide : KeptBySide State.InputsAgree where
  side s t same h := by unfold State.InputsAgree; rw [same.inp]; exact h
  configure s k c h := h.set k _ (.settled rfl rfl rfl)
  learning s k l h := h.set k _ ((h k).congr rfl Iff.rfl rfl rfl rfl)
  terminal s k term h := h.set k _ ((h k).congr rfl Iff.rfl rfl rfl rfl)
  transition s k inShot next r h := h.set k _ ((h k).transition inShot next r)
  windowEnd s k edges h opened := h.set k _ <| by
    have normal : (s.inp.get k).chatter = false := by
      by_contra c
      exact opened ((h k).chattering (by simpa using c)).1
    exact .settled normal rfl rfl
  leave s k h chatter same := h.set k _ <| by
    obtain ⟨closed, keeps⟩ := (h k).chattering chatter
    exact .settled rfl closed (same.trans keeps.symm)
  leaveEdge s k edges h chatter := h.set k _ (.settled rfl ((h k).chattering chatter).1 rfl)
  nextWindow s h k := by
    rw [Bank.get_map]
    exact (h k).congr rfl Iff.rfl rfl rfl rfl
  read s volts h k := by
    rw [Bank.get_mapIdx]
    exact (h k).congr rfl Iff.rfl rfl rfl rfl
  learned s k l h := h.set k _ ((h k).congr rfl Iff.rfl rfl rfl rfl)
  begin s h k := by
    rw [Bank.get_map]
    exact (h k).congr rfl (by simp [Input.begin]) rfl rfl rfl
  glitch _ _ h := h
  capture _ _ _ h _ := h
  holdover _ _ h _ := h
  fall _ h := h
  sag _ _ _ h := h
  interlock _ _ h := h
  charge _ h := h
  write _ _ h := h
  writeDone _ _ h := h
  interrupt s h := by rw [(interruptWrite_eq s).2.2]; exact h
  start pins s _ k := by
    change InputAgrees ((pins.terms.map fun t => Input.restart t 0).get k)
    rw [Bank.get_map]
    exact .settled rfl rfl rfl
  hold s _ k := by
    change InputAgrees ((s.interruptWrite.inp.map fun i => Input.restart i.term 0).get k)
    rw [Bank.get_map]
    exact .settled rfl rfl rfl
  engineReset s _ k := by
    change InputAgrees ((s.inp.map fun i => Input.restart i.term i.reading).get k)
    rw [Bank.get_map]
    exact .settled rfl rfl rfl

/-! ## The time base (R132) -/

/-- The time base of a state agrees with L. -/
def State.SyncAgrees (s : State) : Prop := Machine.SyncAgrees s.tb

theorem syncAgrees_keptBySide : KeptBySide State.SyncAgrees where
  side s t same h := by unfold State.SyncAgrees; rw [same.tb]; exact h
  configure _ _ _ h := h
  learning _ _ _ h := h
  terminal _ _ _ h := h
  transition _ _ _ _ _ h := h
  windowEnd _ _ _ h _ := h
  leave _ _ h _ _ := h
  leaveEdge _ _ _ h _ := h
  nextWindow _ h := h
  read _ _ h := h
  learned _ _ _ h := h
  begin _ h := h
  glitch _ _ h := h
  capture _ _ _ _ present := by simpa [State.SyncAgrees, Machine.SyncAgrees] using present
  holdover _ _ _ present := by simp [State.SyncAgrees, Machine.SyncAgrees, present]
  fall _ _ := by simp [State.SyncAgrees, Machine.SyncAgrees]
  sag _ _ _ h := h
  interlock _ _ h := h
  charge _ h := h
  write _ _ h := h
  writeDone _ _ h := h
  interrupt s h := by rw [(interruptWrite_eq s).2.2]; exact h
  start _ _ _ := by simp [State.SyncAgrees, Machine.SyncAgrees, State.start, State.reset, TimeBase.initial]
  hold _ _ := by simp [State.SyncAgrees, Machine.SyncAgrees, State.hold, State.reset, TimeBase.initial]
  engineReset _ h := h

/-! ## The thermal accounts (R142, R143, R147) -/

/-- The accounts lie within the capacities of the working copies, and the peaks within 1,000 per-mille. -/
def AccountsWithin (thermal : Bank Thermal 6) (working : Bank CalRecord 10) : Prop :=
  ∀ o, (thermal.get o).heat ≤ (working.get (outletOf o)).capacity ∧ (thermal.get o).peak ≤ 1000

def State.AccountsWithin (s : State) : Prop := Machine.AccountsWithin s.sup.thermal s.cal.working

theorem heatBounded_iff (s : State) : HeatBounded s ↔ s.AccountsWithin :=
  ⟨fun h o => ⟨h.heat o, h.peak o⟩, fun h => ⟨fun o => (h o).1, fun o => (h o).2⟩⟩

theorem usage_le (heat w : Nat) (h : heat ≤ w) : usage heat w ≤ 1000 :=
  Nat.div_le_of_le_mul (by rw [Nat.mul_comm w]; exact Nat.mul_comm heat 1000 ▸ Nat.mul_le_mul_left 1000 h)

theorem initial_within (working : Bank CalRecord 10) :
    AccountsWithin (initialThermal working) working := by
  intro o
  simp only [initialThermal, Bank.get_ofFn, Thermal.initial]
  omega

theorem accountsWithin_keptBySide : KeptBySide State.AccountsWithin where
  side s t same h := by unfold State.AccountsWithin; rw [same.sup, same.cal]; exact h
  configure _ _ _ h := h
  learning _ _ _ h := h
  terminal _ _ _ h := h
  transition _ _ _ _ _ h := h
  windowEnd _ _ _ h _ := h
  leave _ _ h _ _ := h
  leaveEdge _ _ _ h _ := h
  nextWindow _ h := h
  read _ _ h := h
  learned _ _ _ h := h
  begin s h o := by
    simp only [beginPeaks, Bank.get_mapIdx]
    exact ⟨(h o).1, usage_le _ _ (h o).1⟩
  glitch _ _ h := h
  capture _ _ _ h _ := h
  holdover _ _ h _ := h
  fall _ h := h
  sag _ _ _ h := h
  interlock _ _ h := h
  charge s h o := by
    have heat : (heatAfter (s.sup.thermal.get o).heat (chargedAmp s o) (ratingOf s o) (capacityOf s o)) ≤
        capacityOf s o := Nat.min_le_left _ _
    simp only [updateThermal, Bank.get_mapIdx, Thermal.update]
    refine ⟨heat, ?_⟩
    split
    · exact max_le (h o).2 (usage_le _ _ heat)
    · exact (h o).2
  write _ _ h := h
  writeDone s w h o := by
    simp only [limitHeat, Bank.get_mapIdx, Calibration.finish, Bank.get_set]
    by_cases outlet : outletOf o = w.outlet
    · simp [outlet, (h o).2]
    · rw [if_neg outlet, if_neg fun e => outlet e.symm]
      exact h o
  interrupt s h := by
    unfold State.AccountsWithin
    rw [(interruptWrite_eq s).2.1, (interruptWrite_eq s).2.2]
    exact h
  start pins s _ := initial_within (s.interruptWrite.cal.check).working
  hold s _ := initial_within s.interruptWrite.cal.working
  engineReset _ h := h

/-- Settles O58: each of the three agreements is kept by the pieces that touch it. -/
theorem everyStepKeepsInputsTimeBaseAndHeat : Obligations.EveryStepKeepsInputsTimeBaseAndHeat := by
  refine ⟨fun s t h e => ?inputs, fun s t h e => ⟨?sync, ?heat⟩⟩
  case inputs => exact inputsAgree_keptBySide.keptByCommands.step (fun _ _ h => h) h e
  case sync => exact syncAgrees_keptBySide.keptByCommands.step (fun _ _ h => h) h.1 e
  case heat =>
    rw [heatBounded_iff]
    exact accountsWithin_keptBySide.keptByCommands.step (fun _ _ h => h) ((heatBounded_iff s).1 h.2) e

end Sys2Proof.Machine
end

section
/-! PROOFS. Every step keeps the breakers and the binary outputs in agreement (R114, R124, R128, R129): the
agreement is one of the breakers, the sequencer and the outputs alone, and each piece of a command either
leaves what the outputs follow, or takes the outputs anew. -/

namespace Sys2Proof.Machine

/-! ## What an output follows -/

/-- Owner and level of an output, as the breakers and the sequencer give them (R128, R129). -/
def outputOf (brk : Bank Breaker 2) (q : Sequencer) (o : BoutId) : Output :=
  match ((brk.get 0).drives o).or ((brk.get 1).drives o) with
  | some level => { owner := .breaker, closed := level }
  | none =>
    if q.commit && patternNames q o then { owner := .sequence, closed := patternCloses q o }
    else { owner := .nobody, closed := false }

theorem outputNow_eq (s : State) (o : BoutId) : outputNow s o = outputOf s.brk s.seq o := by
  unfold outputNow outputOf breakerDrive
  cases ((s.brk.get 0).drives o).or ((s.brk.get 1).drives o) <;> rfl

theorem refreshOutputs_out_eq (s : State) : s.refreshOutputs.out = .ofFn (outputOf s.brk s.seq) :=
  congrArg Bank.ofFn (funext (outputNow_eq s))

/-- The breakers, the sequencer and the outputs agree. -/
structure SwitchesAgree (brk : Bank Breaker 2) (q : Sequencer) (out : Bank Output 8) : Prop where
  each : ∀ b, BreakerAgrees (brk.get b)
  outside : q.st.inShot = false → ∀ b, (brk.get b).cfg.enabled = true →
    (brk.get b).st = (brk.get b).cfg.initialState ∧ (brk.get b).op = none
  outputs : ∀ o, out.get o = outputOf brk q o

def State.SwitchesAgree (s : State) : Prop := Machine.SwitchesAgree s.brk s.seq s.out

theorem switchesAgree_iff (s : State) : s.SwitchesAgree ↔ BreakersAgree s ∧ OutputsAgree s := by
  constructor
  · rintro ⟨each, outside, outputs⟩
    exact ⟨⟨each, outside⟩, fun o => (outputs o).trans (outputNow_eq s o).symm⟩
  · rintro ⟨⟨each, outside⟩, outputs⟩
    exact ⟨each, outside, fun o => (outputs o).trans (outputNow_eq s o)⟩

/-- A sequencer that gives the outputs what they stood at. -/
theorem SwitchesAgree.sequencer {brk : Bank Breaker 2} {q q' : Sequencer} {out : Bank Output 8}
    (h : SwitchesAgree brk q out) (inShot : q'.st.inShot = q.st.inShot) (commit : q'.commit = q.commit)
    (table : q'.table = q.table) (closes : ∀ o, patternCloses q' o = patternCloses q o) :
    SwitchesAgree brk q' out where
  each := h.each
  outside := by rw [inShot]; exact h.outside
  outputs o := by
    have names : patternNames q' o = patternNames q o := by
      simp only [patternNames, loadedRecords, table]
    rw [h.outputs o]
    simp only [outputOf, commit, names, closes]

/-- The same sequencer state with the same state in force. -/
theorem SwitchesAgree.waiting {brk : Bank Breaker 2} {q q' : Sequencer} {out : Bank Output 8}
    (h : SwitchesAgree brk q out) (st : q'.st = q.st) (commit : q'.commit = q.commit)
    (table : q'.table = q.table) (inForce : q'.inForce = q.inForce) : SwitchesAgree brk q' out :=
  h.sequencer (by rw [st]) commit table fun o => by
    simp only [patternCloses, st, inForce, Sequencer.record, table]

theorem patternCloses_of_resting {q : Sequencer} (st : q.st.driving = false) (o : BoutId) :
    patternCloses q o = false := by simp [patternCloses, st]

/-- Outputs taken anew agree. -/
theorem SwitchesAgree.refreshed {s : State} (each : ∀ b, BreakerAgrees (s.brk.get b))
    (outside : s.seq.st.inShot = false → ∀ b, (s.brk.get b).cfg.enabled = true →
      (s.brk.get b).st = (s.brk.get b).cfg.initialState ∧ (s.brk.get b).op = none) :
    s.refreshOutputs.SwitchesAgree :=
  ⟨each, outside, fun o => by rw [refreshOutputs_out_eq]; exact Bank.get_ofFn _ o⟩

/-- The write of a report touches none of them. -/
theorem State.SwitchesAgree.write {s : State} (h : s.SwitchesAgree) (f : Report → Report) :
    (s.write f).SwitchesAgree := by
  unfold State.SwitchesAgree
  rw [State.write_brk, State.write_seq, State.write_out]
  exact h

/-! ## The breakers under commands (R118 to R122) -/

theorem appendOp_brk (b : BreakerId) (e : OpEntry) (s : State) : (appendOp b e s).brk =
    s.brk.set b { s.brk.get b with ops := appendTo 16 (s.brk.get b).ops e,
                                   overflow := overflowTo 16 (s.brk.get b).ops (s.brk.get b).overflow } :=
  State.write_brk _ _

theorem appendOp_seq (b : BreakerId) (e : OpEntry) (s : State) : (appendOp b e s).seq = s.seq :=
  State.write_seq _ _

theorem appendOp_out (b : BreakerId) (e : OpEntry) (s : State) : (appendOp b e s).out = s.out :=
  State.write_out _ _

/-- An entry of the operation list leaves configuration, state and operation. -/
theorem appendOp_get (b c : BreakerId) (e : OpEntry) (s : State) :
    ((appendOp b e s).brk.get c).cfg = (s.brk.get c).cfg ∧
    ((appendOp b e s).brk.get c).st = (s.brk.get c).st ∧
    ((appendOp b e s).brk.get c).op = (s.brk.get c).op := by
  rw [appendOp_brk, Bank.get_set]
  split
  case isTrue same => subst same; exact ⟨rfl, rfl, rfl⟩
  case isFalse => exact ⟨rfl, rfl, rfl⟩

theorem BreakerAgrees.congr {b c : Breaker} (h : BreakerAgrees b) (cfg : c.cfg = b.cfg) (st : c.st = b.st)
    (op : c.op = b.op) : BreakerAgrees c :=
  ⟨by rw [cfg, st, op]; exact h.disabled, by rw [op, st]; exact h.operating,
   by rw [op, st]; exact h.resting⟩

theorem Breaker.drives_congr {b c : Breaker} (cfg : c.cfg = b.cfg) (st : c.st = b.st) (o : BoutId) :
    c.drives o = b.drives o := by simp only [Breaker.drives, cfg, st]

/-- A refused command leaves the agreement. -/
theorem appendOp_switchesAgree (b : BreakerId) (e : OpEntry) {s : State} (h : s.SwitchesAgree) :
    (appendOp b e s).SwitchesAgree where
  each c := by
    obtain ⟨cfg, st, op⟩ := appendOp_get b c e s
    exact (h.each c).congr cfg st op
  outside out c enabled := by
    obtain ⟨cfg, st, op⟩ := appendOp_get b c e s
    rw [appendOp_seq] at out
    rw [cfg] at enabled
    rw [cfg, st, op]
    exact h.outside out c enabled
  outputs o := by
    have drives (c : BreakerId) : ((appendOp b e s).brk.get c).drives o = (s.brk.get c).drives o :=
      Breaker.drives_congr (appendOp_get b c e s).1 (appendOp_get b c e s).2.1 o
    rw [appendOp_out, appendOp_seq, h.outputs o]
    simp only [outputOf, drives]

theorem setBreaker_get (b c : BreakerId) (st : BrkState) (op : Option Operation) (s : State) :
    (setBreaker b st op s).brk.get c = if b = c then { s.brk.get b with st, op } else s.brk.get c :=
  Bank.get_modify ..

/-- A breaker of a shot that takes a state with the operation of that state. -/
theorem setBreaker_each (b : BreakerId) (st : BrkState) (op : Option Operation) {s : State}
    (h : s.SwitchesAgree) (enabled : (s.brk.get b).cfg.enabled = true)
    (operating : ∀ o, op = some o → st = if o.opens then .opening else .closing)
    (resting : op = none → st = .closed ∨ st = .opened) (c : BreakerId) :
    BreakerAgrees ((setBreaker b st op s).brk.get c) := by
  rw [setBreaker_get]
  split
  · exact ⟨fun off => by simp [enabled] at off, operating, resting⟩
  · exact h.each c

/-- Outputs taken anew behind an entry of the operation list. -/
theorem completed_switchesAgree (b : BreakerId) (st : BrkState) (e : OpEntry) {s : State}
    (h : s.SwitchesAgree) (inShot : s.seq.st.inShot = true) (enabled : (s.brk.get b).cfg.enabled = true)
    (rests : st = .closed ∨ st = .opened) :
    (appendOp b e (setBreaker b st none s)).refreshOutputs.SwitchesAgree := by
  refine SwitchesAgree.refreshed (fun c => ?_) fun out => ?_
  · obtain ⟨cfg, state, op⟩ := appendOp_get b c e (setBreaker b st none s)
    exact (setBreaker_each b st none h enabled (by simp) (fun _ => rests) c).congr cfg state op
  · rw [appendOp_seq] at out
    exact absurd inShot (by rw [show s.seq.st.inShot = false from out]; simp)

theorem completeOpen_switchesAgree (b : BreakerId) (op : Operation) {s : State} (h : s.SwitchesAgree)
    (inShot : s.seq.st.inShot = true) (enabled : (s.brk.get b).cfg.enabled = true) :
    (completeOpen b op s).SwitchesAgree :=
  completed_switchesAgree b .opened _ h inShot enabled (.inr rfl)

theorem completeClose_switchesAgree (b : BreakerId) (op : Operation) {s : State} (h : s.SwitchesAgree)
    (inShot : s.seq.st.inShot = true) (enabled : (s.brk.get b).cfg.enabled = true) :
    (completeClose b op s).SwitchesAgree :=
  completed_switchesAgree b .closed _ h inShot enabled (.inl rfl)

/-- An operation in progress is one of an enabled breaker. -/
theorem BreakerAgrees.enabled {b : Breaker} (h : BreakerAgrees b) {op : Operation} (hop : b.op = some op) :
    b.cfg.enabled = true := by
  by_contra off
  have := (h.disabled (by simpa using off)).2
  rw [hop] at this
  cases this

/-- An operation begins: the breaker takes its state, and the outputs follow. -/
theorem begun_switchesAgree (b : BreakerId) (st : BrkState) (op : Operation) {s : State}
    (h : s.SwitchesAgree) (inShot : s.seq.st.inShot = true) (enabled : (s.brk.get b).cfg.enabled = true)
    (operating : st = if op.opens then .opening else .closing) :
    (setBreaker b st (some op) s).refreshOutputs.SwitchesAgree := by
  refine SwitchesAgree.refreshed (setBreaker_each b st (some op) h enabled ?_ (by simp)) fun out => ?_
  · rintro o ⟨⟩
    exact operating
  · exact absurd inShot (by rw [show s.seq.st.inShot = false from out]; simp)

theorem setBreaker_enabled (b : BreakerId) (st : BrkState) (op : Option Operation) {s : State}
    (enabled : (s.brk.get b).cfg.enabled = true) :
    ((setBreaker b st op s).refreshOutputs.brk.get b).cfg.enabled = true := by
  change ((setBreaker b st op s).brk.get b).cfg.enabled = true
  rw [setBreaker_get, if_pos rfl]
  exact enabled

theorem beginOpen_switchesAgree (b : BreakerId) (t : Time) (c : CmdCause) (r : Option Time) {s : State}
    (h : s.SwitchesAgree) (inShot : s.seq.st.inShot = true)
    (enabled : (s.brk.get b).cfg.enabled = true) : (beginOpen b t c r s).1.SwitchesAgree := by
  unfold beginOpen
  dsimp only
  split
  · exact completeOpen_switchesAgree b _ (begun_switchesAgree b .opening _ h inShot enabled rfl) inShot
      (setBreaker_enabled b _ _ enabled)
  · exact begun_switchesAgree b .opening _ h inShot enabled rfl

theorem beginClose_switchesAgree (b : BreakerId) (t : Time) (c : CmdCause) {s : State}
    (h : s.SwitchesAgree) (inShot : s.seq.st.inShot = true)
    (enabled : (s.brk.get b).cfg.enabled = true) : (beginClose b t c s).1.SwitchesAgree := by
  unfold beginClose
  dsimp only
  split
  · exact completeClose_switchesAgree b _ (begun_switchesAgree b .closing _ h inShot enabled rfl) inShot
      (setBreaker_enabled b _ _ enabled)
  · exact begun_switchesAgree b .closing _ h inShot enabled rfl

/-- A trip is refused, begins an open, or finds no shot or no enabled breaker (R119). -/
theorem tripBreaker_cases (b : BreakerId) (t : Time) (c : CmdCause) (s : State) :
    (tripBreaker b t c s).1 = s ∨ s.seq.st.inShot = true ∧ (s.brk.get b).cfg.enabled = true ∧
      ((∃ r, tripBreaker b t c s = beginOpen b t c r s) ∨ ∃ e, (tripBreaker b t c s).1 = appendOp b e s) := by
  unfold tripBreaker
  dsimp only
  split
  · exact .inl rfl
  case isFalse may =>
    simp only [Bool.not_eq_true', Bool.not_eq_false, Bool.and_eq_true] at may
    refine .inr ⟨may.1, may.2, ?_⟩
    split
    · exact .inl ⟨_, rfl⟩
    · exact .inl ⟨_, rfl⟩
    · exact .inr ⟨_, rfl⟩
    · exact .inr ⟨_, rfl⟩

/-- A close is refused, begins a close, or finds no shot or no enabled breaker (R120). -/
theorem closeBreaker_cases (b : BreakerId) (t : Time) (c : CmdCause) (s : State) :
    (closeBreaker b t c s).1 = s ∨ s.seq.st.inShot = true ∧ (s.brk.get b).cfg.enabled = true ∧
      (closeBreaker b t c s = beginClose b t c s ∨ ∃ e, (closeBreaker b t c s).1 = appendOp b e s) := by
  unfold closeBreaker
  dsimp only
  split
  · exact .inl rfl
  case isFalse may =>
    simp only [Bool.not_eq_true', Bool.not_eq_false, Bool.and_eq_true] at may
    refine .inr ⟨may.1, may.2, ?_⟩
    split
    · split
      · exact .inr ⟨_, rfl⟩
      · exact .inl rfl
    all_goals exact .inr ⟨_, rfl⟩

theorem tripBreaker_switchesAgree (b : BreakerId) (t : Time) (c : CmdCause) {s : State}
    (h : s.SwitchesAgree) : (tripBreaker b t c s).1.SwitchesAgree := by
  rcases tripBreaker_cases b t c s with e | ⟨inShot, enabled, ⟨r, e⟩ | ⟨entry, e⟩⟩ <;> rw [e]
  · exact h
  · exact beginOpen_switchesAgree b t c r h inShot enabled
  · exact appendOp_switchesAgree b entry h

theorem closeBreaker_switchesAgree (b : BreakerId) (t : Time) (c : CmdCause) {s : State}
    (h : s.SwitchesAgree) : (closeBreaker b t c s).1.SwitchesAgree := by
  rcases closeBreaker_cases b t c s with e | ⟨inShot, enabled, e | ⟨entry, e⟩⟩ <;> rw [e]
  · exact h
  · exact beginClose_switchesAgree b t c h inShot enabled
  · exact appendOp_switchesAgree b entry h

/-! ## Stops, starts and finalization -/

theorem enterTail_switchesAgree (t : Time) {s : State} (h : s.SwitchesAgree) :
    (s.enterTail t).SwitchesAgree :=
  SwitchesAgree.refreshed (s := { s with seq := { s.seq with st := .tail, tailDue := _ } }) h.each
    fun out => by cases out

theorem softStop_switchesAgree (r : EndReason) (t : Time) {s : State} (h : s.SwitchesAgree)
    (running : s.seq.st = .running) : (s.softStop r t).SwitchesAgree := by
  have brk : (s.softStop r t).brk = s.brk := State.write_brk _ _
  have out : (s.softStop r t).out = s.out := State.write_out _ _
  unfold State.SwitchesAgree
  rw [brk, out, softStop_seq]
  refine SwitchesAgree.sequencer h (by rw [running]; rfl) rfl rfl fun o => ?_
  simp [patternCloses, running, SeqState.driving, Sequencer.record]

theorem addFurther_switchesAgree (c : HardCause) {s : State} (h : s.SwitchesAgree) :
    (s.addFurther c).SwitchesAgree := by
  unfold State.addFurther
  split
  · exact h
  · refine State.SwitchesAgree.write ?_ _
    exact SwitchesAgree.waiting h rfl rfl rfl rfl

theorem hardStop_switchesAgree (c : HardCause) (t : Time) {s : State} (h : s.SwitchesAgree) :
    (s.hardStop c t).SwitchesAgree := by
  unfold State.hardStop
  split
  case h_1 =>
    have recorded : (s.recordEnd (.hard c) t).SwitchesAgree := by
      unfold State.recordEnd
      refine State.SwitchesAgree.write ?_ _
      exact SwitchesAgree.waiting h rfl rfl rfl rfl
    refine enterTail_switchesAgree t ?_
    exact SwitchesAgree.waiting recorded rfl rfl rfl rfl
  case h_2 => exact enterTail_switchesAgree t (s := (s.addFurther c).mute) (addFurther_switchesAgree c h)
  case h_3 => exact addFurther_switchesAgree c h
  all_goals exact h

theorem Breaker.settle_agrees (b : Breaker) : BreakerAgrees b.settle where
  disabled off := by
    have off : b.cfg.enabled = false := off
    simp [Breaker.settle, off]
  operating op hop := by simp [Breaker.settle] at hop
  resting _ := by
    unfold Breaker.settle BrkConfig.initialState
    dsimp only
    split
    · split
      · exact .inr rfl
      · exact .inl rfl
    · exact .inl rfl

/-- A settled breaker stands in its initial state (R37, R117, R127). -/
theorem Breaker.settle_initial (b : Breaker) (enabled : b.settle.cfg.enabled = true) :
    b.settle.st = b.settle.cfg.initialState ∧ b.settle.op = none := by
  have on : b.cfg.enabled = true := enabled
  exact ⟨by simp [Breaker.settle, on], rfl⟩

theorem finalize_switchesAgree (t : Time) (s : State) : (finalize t s).SwitchesAgree := by
  unfold finalize leaveTail
  refine SwitchesAgree.refreshed (fun b => ?_) fun _ b enabled => ?_
  · rw [Bank.get_map]
    exact Breaker.settle_agrees _
  · rw [Bank.get_map] at enabled ⊢
    exact Breaker.settle_initial _ enabled

theorem begunShot_switchesAgree (t0 : Time) (src : StartSource) (s : State) :
    (begunShot t0 src s).SwitchesAgree := by
  unfold begunShot enterState writeTrail
  refine State.SwitchesAgree.write (SwitchesAgree.refreshed (fun b => ?_) fun out => by cases out) _
  change BreakerAgrees ((s.brk.map Breaker.begin).get b)
  rw [Bank.get_map]
  exact (Breaker.settle_agrees _).congr rfl rfl rfl

/-- The breakers of a shot, and outputs taken anew (R28). -/
theorem enterState_switchesAgree (i : StateIdx) (reset : Bool) (c : Cause) (a p : Bool) (tick : Time)
    {s : State} (h : s.SwitchesAgree) : (enterState i reset c a p tick s).SwitchesAgree := by
  unfold enterState writeTrail
  refine State.SwitchesAgree.write (SwitchesAgree.refreshed ?_ ?_) _
  · exact h.each
  · exact h.outside

/-! ## The pieces -/

/-- Editing is done outside a shot, and withdraws the commitment (R9). -/
theorem withdraw_switchesAgree {s : State} (each : ∀ b, BreakerAgrees (s.brk.get b))
    (outside : ∀ b, (s.brk.get b).cfg.enabled = true →
      (s.brk.get b).st = (s.brk.get b).cfg.initialState ∧ (s.brk.get b).op = none) :
    s.withdraw.SwitchesAgree :=
  SwitchesAgree.refreshed (s := { s with seq := { s.seq with commit := false, st := .empty } }) each
    fun _ => outside

theorem outside_of_editable {st : SeqState} (editable : st.editable = true) : st.inShot = false := by
  cases st <;> simp_all [SeqState.editable, SeqState.inShot]

theorem setBreakerConfig_get (b j : BreakerId) (c : BrkConfig) (s : State) :
    (setBreakerConfig b c s).brk.get j =
      if b = j then ({ s.brk.get b with cfg := c } : Breaker).settle else s.brk.get j :=
  Bank.get_modify ..

/-- The end of a context, or its beginning, outside a shot. -/
theorem SwitchesAgree.resting {brk : Bank Breaker 2} {q q' : Sequencer} {out : Bank Output 8}
    (h : SwitchesAgree brk q out) (was : q.st.inShot = false) (rests : q'.st.inShot = false)
    (commit : q'.commit = q.commit) (table : q'.table = q.table) : SwitchesAgree brk q' out := by
  have quiet {st : SeqState} (out : st.inShot = false) : st.driving = false := by
    cases st <;> simp_all [SeqState.inShot, SeqState.driving]
  exact h.sequencer (rests.trans was.symm) commit table fun o => by
    rw [patternCloses_of_resting (quiet rests), patternCloses_of_resting (quiet was)]

theorem switchesAgree_keptByEffects : KeptByEffects State.SwitchesAgree where
  goto _ _ _ _ h _ _ := SwitchesAgree.waiting h rfl rfl rfl rfl
  endShot _ t h running := softStop_switchesAgree _ t h running
  startTimer s m c r h := by
    unfold startTimer
    dsimp only
    repeat' split
    all_goals exact h
  stopTimer s m c r h := by
    unfold stopTimer
    dsimp only
    repeat' split
    all_goals exact h
  trip _ _ _ _ h := tripBreaker_switchesAgree _ _ _ h
  close _ _ _ _ h := closeBreaker_switchesAgree _ _ _ h
  mark _ _ h := h.write _
  log _ _ _ _ h := h.write _
  chainLimit _ h := h.write _
  count _ _ _ h := h
  now _ _ h := h
  clock _ _ h := h
  raise _ _ h := h
  inputs _ _ h := h
  timers _ _ h := h
  timeBase _ _ h := h
  supervision _ _ h := h
  outlets _ _ _ h := h
  sample _ t h := endStopping_keeps h fun _ => enterTail_switchesAgree t h
  flag _ _ h := h.write _
  startDue _ _ _ h _ := SwitchesAgree.waiting h rfl rfl rfl rfl
  endArm _ _ h armed := SwitchesAgree.resting h (by rw [armed]; rfl) rfl rfl rfl
  begun s t0 src _ _ := begunShot_switchesAgree t0 src s
  request _ _ _ _ h _ := SwitchesAgree.waiting h rfl rfl rfl rfl
  endWait _ _ h _ := SwitchesAgree.waiting h rfl rfl rfl rfl
  noDuration _ h := SwitchesAgree.waiting h rfl rfl rfl rfl
  superseded _ h := h.write _
  dwell _ _ _ h _ := SwitchesAgree.waiting h rfl rfl rfl rfl
  enter _ _ _ _ _ _ _ h _ := enterState_switchesAgree _ _ _ _ _ _ h
  softStop _ _ t h running := softStop_switchesAgree _ t h running
  hardStop _ c t h := hardStop_switchesAgree c t h
  addFurther _ c h _ := addFurther_switchesAgree c h
  cut s t h _ := by
    unfold cutAt State.flag
    refine enterTail_switchesAgree t (State.SwitchesAgree.write ?_ _)
    exact h
  finalize s t _ _ := finalize_switchesAgree t s
  opened _ b op h inShot hop _ := completeOpen_switchesAgree b op h inShot ((h.each b).enabled hop)
  closed _ b op h inShot hop _ := completeClose_switchesAgree b op h inShot ((h.each b).enabled hop)
  freeCount _ _ h := h
  edit _ _ _ _ _ _ h editable := withdraw_switchesAgree h.each (h.outside (outside_of_editable editable))
  breaker s b c h editable := by
    refine withdraw_switchesAgree (fun j => ?_) fun j enabled => ?_
    · rw [setBreakerConfig_get]
      split
      · exact Breaker.settle_agrees _
      · exact h.each j
    · rw [setBreakerConfig_get] at enabled ⊢
      split at enabled <;> simp only [*, if_true, if_false]
      · exact Breaker.settle_initial _ enabled
      · exact h.outside (outside_of_editable editable) j enabled
  commit s header h editable := SwitchesAgree.refreshed
    (s := { s with seq := { s.seq with header, commit := true, st := .ready } }) h.each
    fun _ => h.outside (outside_of_editable editable)
  arm _ _ h ready _ := SwitchesAgree.resting h (by rw [ready]; rfl) rfl rfl rfl
  markRead _ _ h := h
  releaseRead _ h := h
  release _ _ h := h

/-- The reset values agree: no breaker is enabled and nobody owns an output (R114, R128). -/
theorem initial_switchesAgree (shotNo : Nat) (t0 : Time) :
    SwitchesAgree State.reset.brk { Sequencer.initial with shotNo, t0 } State.reset.out where
  each b := by
    change BreakerAgrees ((Bank.fill 2 Breaker.initial).get b)
    rw [Bank.get_fill]
    exact (Breaker.settle_agrees Breaker.initial).congr rfl rfl rfl
  outside _ b enabled := by
    change ((Bank.fill 2 Breaker.initial).get b).cfg.enabled = true at enabled
    rw [Bank.get_fill] at enabled
    cases enabled
  outputs o := by
    change (Bank.fill 8 _).get o = outputOf (.fill 2 .initial) _ o
    simp [outputOf, Breaker.drives, Breaker.initial, BrkConfig.default, Sequencer.initial]

theorem switchesAgree_keptByCommands : KeptByCommands State.SwitchesAgree :=
  switchesAgree_keptByEffects.keptByCommands ⟨fun _ _ h => h, fun _ _ h => h, fun _ _ h => h⟩
    (fun _ _ _ => initial_switchesAgree 0 0) (fun _ _ => initial_switchesAgree 0 0)
    (fun s h => by
      have same : s.lose.SwitchesAgree = s.interruptWrite.SwitchesAgree := rfl
      rw [same, (interruptWrite_eq s).2.2]
      exact h)
    (fun s _ => initial_switchesAgree s.seq.shotNo s.seq.t0) (fun _ _ h => h)

/-- Settles O57: the agreement is kept by every command. -/
theorem everyStepKeepsBreakersAndOutputsInAgreement :
    Obligations.EveryStepKeepsBreakersAndOutputsInAgreement := by
  intro s t h e
  rw [← switchesAgree_iff] at h ⊢
  exact switchesAgree_keptByCommands.step (fun _ _ h => h) h e

end Sys2Proof.Machine
end

section
/-! PROOFS. Every step keeps the outlets safe (R50, R51): an agreement of the sequencer state with the streams
alone, which each piece of a command that touches them keeps. -/

namespace Sys2Proof.Machine

/-! ## The breakers' operations -/

/-- A property that each piece of a breaker's operation keeps. -/
structure KeptByOperations (P : State → Prop) : Prop where
  append : ∀ s b e, P s → P (appendOp b e s)
  set : ∀ s b st op, P s → P (setBreaker b st op s)
  refresh : ∀ s, P s → P s.refreshOutputs
  group : ∀ s b f, P s → P (onGroup b f s)

namespace KeptByOperations

variable {P : State → Prop} (k : KeptByOperations P) {s : State} (h : P s)

include k h

theorem completeOpen (b : BreakerId) (op : Operation) : P (completeOpen b op s) :=
  k.group _ _ _ (k.refresh _ (k.append _ _ _ (k.set _ _ _ _ h)))

theorem completeClose (b : BreakerId) (op : Operation) : P (completeClose b op s) :=
  k.group _ _ _ (k.refresh _ (k.append _ _ _ (k.set _ _ _ _ h)))

theorem beginOpen (b : BreakerId) (t : Time) (c : CmdCause) (r : Option Time) : P (beginOpen b t c r s).1 := by
  unfold Machine.beginOpen
  dsimp only
  split
  · exact k.completeOpen (k.refresh _ (k.set _ _ _ _ h)) _ _
  · exact k.refresh _ (k.set _ _ _ _ h)

theorem beginClose (b : BreakerId) (t : Time) (c : CmdCause) : P (beginClose b t c s).1 := by
  unfold Machine.beginClose
  dsimp only
  split
  · exact k.completeClose (k.refresh _ (k.set _ _ _ _ h)) _ _
  · exact k.refresh _ (k.set _ _ _ _ h)

theorem trip (b : BreakerId) (t : Time) (c : CmdCause) : P (tripBreaker b t c s).1 := by
  rcases tripBreaker_cases b t c s with e | ⟨-, -, ⟨r, e⟩ | ⟨entry, e⟩⟩ <;> rw [e]
  · exact h
  · exact k.beginOpen h b t c r
  · exact k.append _ _ _ h

theorem close (b : BreakerId) (t : Time) (c : CmdCause) : P (closeBreaker b t c s).1 := by
  rcases closeBreaker_cases b t c s with e | ⟨-, -, e | ⟨entry, e⟩⟩ <;> rw [e]
  · exact h
  · exact k.beginClose h b t c
  · exact k.append _ _ _ h

end KeptByOperations

/-! ## The codes of the streams (R50, R51) -/

/-- The streams stand at code 0 outside RUNNING and STOPPING, and within the range of the DAC. -/
structure CodesSafe (st : SeqState) (dac : Bank Int 10) : Prop where
  silent : st.driving = false → ∀ o, dac.get o = 0
  range : ∀ o, -32767 ≤ dac.get o ∧ dac.get o ≤ 32767

def State.CodesSafe (s : State) : Prop := Machine.CodesSafe s.seq.st s.syn.dac

theorem codesSafe_iff (s : State) : s.CodesSafe ↔ OutletsSafe s :=
  ⟨fun h => ⟨h.silent, h.range⟩, fun h => ⟨h.silent, h.range⟩⟩

/-- Streams at code 0 are safe in every state. -/
theorem codesSafe_zero (st : SeqState) : CodesSafe st (.fill 10 0) where
  silent _ o := Bank.get_fill _ o
  range o := by simp

/-- In RUNNING and STOPPING any codes in range will do. -/
theorem CodesSafe.driving {st st' : SeqState} {dac : Bank Int 10} (h : CodesSafe st dac)
    (drives : st'.driving = true) : CodesSafe st' dac :=
  ⟨fun off => by simp [drives] at off, h.range⟩

/-- From a state that emits nothing, another one is entered with the streams as they stand. -/
theorem CodesSafe.resting {st st' : SeqState} {dac : Bank Int 10} (h : CodesSafe st dac)
    (off : st.driving = false) : CodesSafe st' dac :=
  ⟨fun _ => h.silent off, h.range⟩

theorem State.CodesSafe.write {s : State} (h : s.CodesSafe) (f : Report → Report) :
    (s.write f).CodesSafe := by
  unfold State.CodesSafe
  rw [State.write_seq, State.write_syn]
  exact h

theorem saturate_range (v : Int) : -32767 ≤ saturate v ∧ saturate v ≤ 32767 := by
  unfold saturate
  omega

theorem emitted_range (driving : Bool) (cal : Bank CalRecord 10) (y : Synth) (o : Outlet) :
    -32767 ≤ emitted driving cal y o ∧ emitted driving cal y o ≤ 32767 := by
  unfold emitted
  split
  · split
    · exact saturate_range _
    · decide
  · decide

theorem emitted_off (cal : Bank CalRecord 10) (y : Synth) (o : Outlet) : emitted false cal y o = 0 := by
  unfold emitted
  cases routeOf y.map o <;> simp

theorem emitSamples_dac (s : State) :
    (emitSamples s).syn.dac = .ofFn (emitted s.seq.st.driving s.cal.working s.syn) := by
  unfold emitSamples
  cases s.seq.st.driving <;> rfl

/-- The samples are safe, whatever the streams were (R50, R51). -/
theorem emitSamples_codesSafe (s : State) : (emitSamples s).CodesSafe := by
  unfold State.CodesSafe
  rw [emitSamples_dac]
  refine ⟨fun off o => ?_, fun o => ?_⟩
  · rw [Bank.get_ofFn, show s.seq.st.driving = false from off, emitted_off]
  · rw [Bank.get_ofFn]
    exact emitted_range ..

theorem addFurther_codesSafe (c : HardCause) {s : State} (h : s.CodesSafe) : (s.addFurther c).CodesSafe := by
  unfold State.addFurther
  split
  · exact h
  · refine State.CodesSafe.write ?_ _
    exact h

/-- A hard cause mutes, or stops nothing (R58). -/
theorem hardStop_codesSafe (c : HardCause) (t : Time) {s : State} (h : s.CodesSafe) :
    (s.hardStop c t).CodesSafe := by
  unfold State.hardStop
  split
  · exact codesSafe_zero _
  · exact codesSafe_zero _
  · exact addFurther_codesSafe c h
  all_goals exact h

theorem softStop_codesSafe (r : EndReason) (t : Time) {s : State} (h : s.CodesSafe) :
    (s.softStop r t).CodesSafe := by
  have same : (s.softStop r t).syn.dac = s.syn.dac := by simp [State.softStop, State.recordEnd, Synth.stopRequest]
  unfold State.CodesSafe
  rw [same]
  exact h.driving rfl

theorem codesSafe_keptByOperations : KeptByOperations State.CodesSafe where
  append _ _ _ h := by
    unfold appendOp
    refine State.CodesSafe.write ?_ _
    exact h
  set _ _ _ _ h := h
  refresh _ h := h
  group _ _ _ h := h

theorem off_of_editable {st : SeqState} (editable : st.editable = true) : st.driving = false := by
  cases st <;> simp_all [SeqState.editable, SeqState.driving]

theorem codesSafe_keptByEffects : KeptByEffects State.CodesSafe where
  goto _ _ _ _ h _ _ := h
  endShot _ t h _ := softStop_codesSafe _ t h
  startTimer s m c r h := by
    unfold startTimer
    dsimp only
    repeat' split
    all_goals exact h
  stopTimer s m c r h := by
    unfold stopTimer
    dsimp only
    repeat' split
    all_goals exact h
  trip _ b t c h := codesSafe_keptByOperations.trip h b t c
  close _ b t c h := codesSafe_keptByOperations.close h b t c
  mark _ _ h := h.write _
  log _ _ _ _ h := h.write _
  chainLimit _ h := h.write _
  count _ _ _ h := h
  now _ _ h := h
  clock _ _ h := h
  raise _ _ h := h
  inputs _ _ h := h
  timers _ _ h := h
  timeBase _ _ h := h
  supervision _ _ h := h
  outlets s y same h := by
    change CodesSafe s.seq.st y.dac
    rw [same]
    exact h
  sample s t _ := emitSamples_codesSafe _
  flag _ _ h := h.write _
  startDue _ _ _ h _ := h
  endArm _ _ h armed := CodesSafe.resting h (by rw [armed]; rfl)
  begun s t0 src h _ := by
    unfold begunShot enterState writeTrail
    refine State.CodesSafe.write ?_ _
    exact CodesSafe.driving h rfl
  request _ _ _ _ h _ := h
  endWait _ _ h _ := h
  noDuration _ h := h
  superseded _ h := h.write _
  dwell _ _ _ h _ := h
  enter _ _ _ _ _ _ _ h _ := by
    unfold enterState writeTrail
    refine State.CodesSafe.write ?_ _
    exact h
  softStop _ _ t h _ := softStop_codesSafe _ t h
  hardStop _ c t h := hardStop_codesSafe c t h
  addFurther _ c h _ := addFurther_codesSafe c h
  cut s t h _ := by
    have quiet : (cutAt t s).syn.dac = .fill 10 0 := by
      simp [cutAt, State.enterTail, Synth.quiet]
    unfold State.CodesSafe
    rw [quiet]
    exact codesSafe_zero _
  finalize s t h inTail := by
    have same : (finalize t s).syn = s.syn := by
      simp [finalize, leaveTail, holdReport, writeGrades, closeTimers]
    unfold State.CodesSafe
    rw [same]
    exact CodesSafe.resting h (by rw [inTail]; rfl)
  opened _ b op h _ _ _ := codesSafe_keptByOperations.completeOpen h b op
  closed _ b op h _ _ _ := codesSafe_keptByOperations.completeClose h b op
  freeCount _ _ h := h
  edit _ _ _ _ _ _ h editable := CodesSafe.resting h (off_of_editable editable)
  breaker _ _ _ h editable := CodesSafe.resting h (off_of_editable editable)
  commit _ _ h editable := CodesSafe.resting h (off_of_editable editable)
  arm _ _ h ready _ := CodesSafe.resting h (by rw [ready]; rfl)
  markRead _ _ h := h
  releaseRead _ h := h
  release _ _ h := h

theorem codesSafe_keptByCommands : KeptByCommands State.CodesSafe :=
  codesSafe_keptByEffects.keptByCommands ⟨fun _ _ h => h, fun _ _ h => h, fun _ _ h => h⟩
    (fun _ _ _ => codesSafe_zero _) (fun _ _ => codesSafe_zero _)
    (fun s h => by
      have same : s.lose.CodesSafe = s.interruptWrite.CodesSafe := rfl
      rw [same, (interruptWrite_eq s).2.2]
      exact h)
    (fun _ _ => codesSafe_zero _) (fun _ _ h => h)

end Sys2Proof.Machine
end

section
/-! PROOFS. Every step keeps the lists of the reports and of the breakers within their capacities (R125, R160). -/

namespace Sys2Proof.Machine

/-! ## The lists of the reports and of the breakers (R125, R160) -/

/-- The lists of the reports and of the breakers stay within their capacities. -/
structure ListsWithin (brk : Bank Breaker 2) (fill : Report) (held : List HeldReport) : Prop where
  fill : fill.Bounded
  held : ∀ h ∈ held, h.report.Bounded
  lists : ∀ b, (brk.get b).ops.length ≤ 16

def State.ListsWithin (s : State) : Prop := Machine.ListsWithin s.brk s.rep.fill s.rep.held

theorem listsWithin_iff (s : State) : s.ListsWithin ↔ ListsBounded s :=
  ⟨fun h => ⟨h.fill, h.held, h.lists⟩, fun h => ⟨h.fill, h.held, h.lists⟩⟩

theorem appendTo_length {α : Type} {cap : Nat} {l : List α} (a : α) (h : l.length ≤ cap) :
    (appendTo cap l a).length ≤ cap := by
  unfold appendTo
  split
  · simpa using ‹l.length < cap›
  · exact h

theorem empty_bounded : Report.empty.Bounded := by
  constructor <;> simp [Report.empty]

/-- A report with the same lists. -/
theorem Report.Bounded.congr {r r' : Report} (h : r.Bounded) (trail : r'.trail = r.trail)
    (timers : r'.timers = r.timers) (grades : r'.grades = r.grades) (ops : r'.ops = r.ops)
    (log : r'.log = r.log) (marks : r'.marks = r.marks) (inputs : r'.inputs = r.inputs) : r'.Bounded :=
  ⟨by rw [trail]; exact h.trail, by rw [timers]; exact h.timers, by rw [grades]; exact h.grades,
   by rw [ops]; exact h.ops, by rw [log]; exact h.log, by rw [marks]; exact h.marks,
   by rw [inputs]; exact h.inputs⟩

theorem ListsWithin.breakers {brk brk' : Bank Breaker 2} {r : Report} {l : List HeldReport}
    (h : ListsWithin brk r l) (ops : ∀ b, (brk'.get b).ops.length ≤ 16) : ListsWithin brk' r l :=
  ⟨h.fill, h.held, ops⟩

theorem State.ListsWithin.write {s : State} (h : s.ListsWithin) (f : Report → Report)
    (keeps : s.rep.fill.Bounded → (f s.rep.fill).Bounded) : (s.write f).ListsWithin := by
  refine ⟨?_, ?_, ?_⟩
  · rw [State.write_fill]
    split
    · exact keeps h.fill
    · exact h.fill
  · rw [State.write_held]
    exact h.held
  · rw [State.write_brk]
    exact h.lists

/-- A report's copy of an operation list (R125). -/
theorem Report.Bounded.operations {r : Report} (h : r.Bounded) (b : BreakerId) {ops : List OpEntry}
    (within : ops.length ≤ 16) (lost : Bank Nat 2) :
    Report.Bounded { r with ops := r.ops.set b ops, opsOver := lost } :=
  ⟨h.trail, h.timers, h.grades, fun c => by
    rw [Bank.get_set]
    split
    · exact within
    · exact h.ops c, h.log, h.marks, h.inputs⟩

theorem appendOp_listsWithin (b : BreakerId) (e : OpEntry) {s : State} (h : s.ListsWithin) :
    (appendOp b e s).ListsWithin := by
  have within := appendTo_length e (h.lists b)
  unfold appendOp
  refine State.ListsWithin.write ?_ _ fun hr => hr.operations b within _
  refine ListsWithin.breakers h fun c => ?_
  rw [Bank.get_set]
  split
  · exact within
  · exact h.lists c

theorem listsWithin_keptByOperations : KeptByOperations State.ListsWithin where
  append _ b e h := appendOp_listsWithin b e h
  set s b st op h := ListsWithin.breakers h fun c => by
    rw [setBreaker_get]
    split
    · exact h.lists b
    · exact h.lists c
  refresh _ h := h
  group _ _ _ h := h

theorem recordEnd_listsWithin (r : EndReason) (t : Time) {s : State} (h : s.ListsWithin) :
    (s.recordEnd r t).ListsWithin := by
  unfold State.recordEnd
  refine State.ListsWithin.write ?_ _ fun hr => hr.congr rfl rfl rfl rfl rfl rfl rfl
  exact h

theorem addFurther_listsWithin (c : HardCause) {s : State} (h : s.ListsWithin) :
    (s.addFurther c).ListsWithin := by
  unfold State.addFurther
  split
  · exact h
  · refine State.ListsWithin.write ?_ _ fun hr => hr.congr rfl rfl rfl rfl rfl rfl rfl
    exact h

theorem hardStop_listsWithin (c : HardCause) (t : Time) {s : State} (h : s.ListsWithin) :
    (s.hardStop c t).ListsWithin := by
  unfold State.hardStop
  split
  · exact recordEnd_listsWithin _ t h
  · exact addFurther_listsWithin c h
  · exact addFurther_listsWithin c h
  all_goals exact h

theorem flag_listsWithin (f : Flags → Flags) {s : State} (h : s.ListsWithin) : (s.flag f).ListsWithin :=
  h.write _ fun hr => hr.congr rfl rfl rfl rfl rfl rfl rfl

theorem writeTrail_listsWithin (e : TrailEntry) {s : State} (h : s.ListsWithin) :
    (writeTrail e s).ListsWithin :=
  h.write _ fun hr =>
    ⟨appendTo_length e hr.trail, hr.timers, hr.grades, hr.ops, hr.log, hr.marks, hr.inputs⟩

theorem enterState_listsWithin (i : StateIdx) (reset : Bool) (c : Cause) (a p : Bool) (tick : Time)
    {s : State} (h : s.ListsWithin) : (enterState i reset c a p tick s).ListsWithin := by
  unfold enterState
  refine writeTrail_listsWithin _ ?_
  exact h

/-- A shot begins with an empty report and empty operation lists (R22, R127). -/
theorem begunShot_listsWithin (t0 : Time) (src : StartSource) {s : State} (h : s.ListsWithin) :
    (begunShot t0 src s).ListsWithin := by
  unfold begunShot
  refine enterState_listsWithin _ _ _ _ _ _ ⟨empty_bounded.congr rfl rfl rfl rfl rfl rfl rfl, h.held, ?_⟩
  intro b
  change (((s.brk.map Breaker.begin).get b).ops).length ≤ 16
  rw [Bank.get_map]
  exact Nat.zero_le _

theorem markSuperseded_listsWithin {s : State} (h : s.ListsWithin) : (markSuperseded s).ListsWithin := by
  unfold markSuperseded
  refine h.write _ fun hr => ?_
  split
  · exact ⟨by rw [List.length_modify]; exact hr.trail, hr.timers, hr.grades, hr.ops, hr.log, hr.marks,
      hr.inputs⟩
  · exact hr

/-! ## Finalization (R37) -/

theorem closeTimers_listsWithin {s : State} (h : s.ListsWithin) : (closeTimers s).ListsWithin := by
  unfold closeTimers
  refine State.ListsWithin.write ?_ _ fun hr =>
    ⟨hr.trail, (Bank.size _).le, hr.grades, hr.ops, hr.log, hr.marks, hr.inputs⟩
  exact h

theorem writeGrades_listsWithin {s : State} (h : s.ListsWithin) : (writeGrades s).ListsWithin :=
  h.write _ fun hr =>
    ⟨hr.trail, hr.timers, (List.length_filterMap_le _ _).trans (by simp), hr.ops, hr.log, hr.marks,
      hr.inputs⟩

theorem holdReport_listsWithin (t : Time) {s : State} (h : s.ListsWithin) :
    (holdReport t s).ListsWithin := by
  have done : (s.write (completeReport s t)).ListsWithin := h.write _ fun hr =>
    ⟨hr.trail, hr.timers, hr.grades, hr.ops, hr.log, hr.marks, (Bank.size _).le⟩
  suffices held : ∀ {brk : Bank Breaker 2} (r : ReportStore), ListsWithin brk r.fill r.held →
      ListsWithin brk r.hold.fill r.hold.held from held _ done
  intro brk r hr
  unfold ReportStore.hold
  split
  · refine ⟨empty_bounded, fun x hx => ?_, hr.lists⟩
    rcases List.mem_append.1 hx with old | new
    · exact hr.held x old
    · rw [List.mem_singleton.1 new]
      exact hr.fill
  all_goals exact hr

theorem leaveTail_listsWithin {s : State} (h : s.ListsWithin) : (leaveTail s).ListsWithin :=
  ListsWithin.breakers h fun b => by
    change ((s.brk.map Breaker.settle).get b).ops.length ≤ 16
    rw [Bank.get_map]
    exact h.lists b

theorem finalize_listsWithin (t : Time) {s : State} (h : s.ListsWithin) : (finalize t s).ListsWithin :=
  leaveTail_listsWithin
    (holdReport_listsWithin t (writeGrades_listsWithin (closeTimers_listsWithin h)))

/-! ## Every piece -/

theorem listsWithin_keptByEffects : KeptByEffects State.ListsWithin where
  goto _ _ _ _ h _ _ := h
  endShot _ t h _ := recordEnd_listsWithin _ t h
  startTimer s m c r h := by
    unfold startTimer
    dsimp only
    repeat' split
    all_goals exact h
  stopTimer s m c r h := by
    unfold stopTimer
    dsimp only
    repeat' split
    all_goals exact h
  trip _ b t c h := listsWithin_keptByOperations.trip h b t c
  close _ b t c h := listsWithin_keptByOperations.close h b t c
  mark _ _ h := h.write _ fun hr =>
    ⟨hr.trail, hr.timers, hr.grades, hr.ops, hr.log, appendTo_length _ hr.marks, hr.inputs⟩
  log _ _ _ _ h := h.write _ fun hr =>
    ⟨hr.trail, hr.timers, hr.grades, hr.ops, appendTo_length _ hr.log, hr.marks, hr.inputs⟩
  chainLimit _ h := flag_listsWithin _ h
  count _ _ _ h := h
  now _ _ h := h
  clock _ _ h := h
  raise _ _ h := h
  inputs _ _ h := h
  timers _ _ h := h
  timeBase _ _ h := h
  supervision _ _ h := h
  outlets _ _ _ h := h
  sample s t h := by
    change (endStopping t s).ListsWithin
    exact endStopping_keeps h fun _ => h
  flag _ _ h := flag_listsWithin _ h
  startDue _ _ _ h _ := h
  endArm _ _ h _ := ⟨empty_bounded, h.held, h.lists⟩
  begun _ t0 src h _ := begunShot_listsWithin t0 src h
  request _ _ _ _ h _ := h
  endWait _ _ h _ := h
  noDuration _ h := h
  superseded _ h := markSuperseded_listsWithin h
  dwell _ _ _ h _ := h
  enter _ _ _ _ _ _ _ h _ := enterState_listsWithin _ _ _ _ _ _ h
  softStop _ r t h _ := recordEnd_listsWithin r t h
  hardStop _ c t h := hardStop_listsWithin c t h
  addFurther _ c h _ := addFurther_listsWithin c h
  cut s t h _ := by
    unfold cutAt
    exact flag_listsWithin _ (s := { s with syn := _ }) h
  finalize _ t h _ := finalize_listsWithin t h
  opened _ b op h _ _ _ := listsWithin_keptByOperations.completeOpen h b op
  closed _ b op h _ _ _ := listsWithin_keptByOperations.completeClose h b op
  freeCount _ _ h := h
  edit _ _ _ _ _ _ h _ := h
  breaker s b c h _ := ListsWithin.breakers h fun j => by
    change ((setBreakerConfig b c s).brk.get j).ops.length ≤ 16
    rw [setBreakerConfig_get]
    split
    · exact h.lists b
    · exact h.lists j
  commit _ _ h _ := h
  arm _ _ h _ _ := h
  markRead s n h := ⟨h.fill, fun x hx => by
    obtain ⟨y, hy, rfl⟩ := List.mem_map.1 hx
    have bounded := h.held y hy
    split <;> exact bounded, h.lists⟩
  releaseRead _ h := ⟨h.fill, fun x hx => h.held x (List.mem_filter.1 hx).1, h.lists⟩
  release _ _ h := ⟨h.fill, fun x hx => h.held x (List.mem_filter.1 hx).1, h.lists⟩

/-- The reset values: no list holds anything. -/
theorem initial_listsWithin : State.reset.ListsWithin :=
  ⟨empty_bounded, (fun _ hx => by cases hx), fun b => by
    change ((Bank.fill 2 Breaker.initial).get b).ops.length ≤ 16
    rw [Bank.get_fill]
    exact Nat.zero_le _⟩

theorem listsWithin_keptByCommands : KeptByCommands State.ListsWithin :=
  listsWithin_keptByEffects.keptByCommands ⟨fun _ _ h => h, fun _ _ h => h, fun _ _ h => h⟩
    (fun _ _ _ => initial_listsWithin) (fun _ _ => initial_listsWithin)
    (fun s h => by
      have same : s.lose.ListsWithin = s.interruptWrite.ListsWithin := rfl
      rw [same, (interruptWrite_eq s).2.2]
      exact h)
    (fun _ _ => initial_listsWithin) (fun _ _ h => h)

/-- Settles O59: each of the two agreements is kept by every command. -/
theorem everyStepKeepsOutletsSafeAndListsBounded :
    Obligations.EveryStepKeepsOutletsSafeAndListsBounded := by
  refine ⟨fun s t h e => ?_, fun s t h e => ?_⟩
  · rw [← codesSafe_iff] at h ⊢
    exact codesSafe_keptByCommands.step (fun _ _ h => h) h e
  · rw [← listsWithin_iff] at h ⊢
    exact listsWithin_keptByCommands.step (fun _ _ h => h) h e

end Sys2Proof.Machine
end

section
/-! PROOFS. The step, the queue of waiting commands, the engine without power, and the reset state. -/

namespace Sys2Proof.Machine

/-! ## The step (R131, logs 2 and 11) -/

theorem whenUp_up {f : State → State} {s : State} (up : s.power = .up) : whenUp f s = f s := by
  unfold whenUp
  rw [up]

theorem whenUp_down {f : State → State} {s : State} (down : s.power ≠ .up) : whenUp f s = s := by
  unfold whenUp
  split
  case h_1 up => exact absurd up down
  all_goals rfl

/-- Settles O1, by the two forms of the queue. -/
theorem stepTakesTheFrontCommand : Obligations.StepTakesTheFrontCommand := by
  refine ⟨fun c s rest front => ?_, fun s empty up => ?_⟩
  · unfold step
    rw [front]
    rfl
  · unfold step State.idle
    rw [whenUp_up up, empty]

/-! ## The queue of waiting commands -/

/-- The commands that wait. -/
def State.Waits (l : List Instr) (s : State) : Prop := s.pending = l

theorem SameAround.waits {l : List Instr} {s t : State} (h : s.Waits l) (same : SameAround s t) : t.Waits l :=
  same.pending.trans h

theorem SameOutside.waits {l : List Instr} {s t : State} (h : s.Waits l) (same : SameOutside s t) :
    t.Waits l := same.pending.trans h

theorem waits_keptByEffects (l : List Instr) : KeptByEffects (State.Waits l) where
  goto _ _ _ _ h _ _ := h
  endShot s t h _ := (SameOutside.softStop s _ t).waits h
  startTimer s m c r h := (SameOutside.startTimer s m c r).waits h
  stopTimer s m c r h := (SameOutside.stopTimer s m c r).waits h
  trip s b t c h := (SameOutside.tripBreaker s b t c).waits h
  close s b t c h := (SameOutside.closeBreaker s b t c).waits h
  mark s e h := (SameOutside.takeMark s e).waits h
  log s i e p h := (SameOutside.logFiring s i e p).waits h
  chainLimit s h := (SameOutside.flag s _).waits h
  count _ _ _ h := h
  now _ _ h := h
  clock _ _ h := h
  raise _ _ h := h
  inputs _ _ h := h
  timers _ _ h := h
  timeBase _ _ h := h
  supervision _ _ h := h
  outlets _ _ _ h := h
  sample s t h := by
    change (endStopping t s).Waits l
    exact endStopping_keeps h fun _ => h
  flag s f h := (SameOutside.flag s f).waits h
  startDue _ _ _ h _ := h
  endArm _ _ h _ := h
  begun s t0 src h _ := by
    unfold begunShot
    refine (SameAround.enterState _ _ _ _ _ _ _).waits ?_
    exact h
  request _ _ _ _ h _ := h
  endWait _ _ h _ := h
  noDuration _ h := h
  superseded s h := (SameOutside.write s _).waits h
  dwell _ _ _ h _ := h
  enter s i r c a p t h _ := (SameAround.enterState s i r c a p t).waits h
  softStop s r t h _ := (SameOutside.softStop s r t).waits h
  hardStop s c t h := (SameAround.hardStop s c t).waits h
  addFurther s c h _ := (SameOutside.addFurther s c).waits h
  cut s t h _ := (SameAround.cutAt s t).waits h
  finalize s t h _ := (SameAround.finalize s t).waits h
  opened s b op h _ _ _ := (SameOutside.completeOpen s b op).waits h
  closed s b op h _ _ _ := (SameOutside.completeClose s b op).waits h
  freeCount _ _ h := h
  edit _ _ _ _ _ _ h _ := h
  breaker _ _ _ h _ := h
  commit _ _ h _ := h
  arm _ _ h _ _ := h
  markRead _ _ h := h
  releaseRead _ h := h
  release _ _ h := h

theorem interruptWrite_waits {l : List Instr} {s : State} (h : s.Waits l) : s.interruptWrite.Waits l := by
  rw [(interruptWrite_eq s).2.2]
  exact h

theorem waits_keptByCommands (l : List Instr) : KeptByCommands (State.Waits l) :=
  (waits_keptByEffects l).keptByCommands ⟨fun _ _ h => h, fun _ _ h => h, fun _ _ h => h⟩
    (fun _ _ h => interruptWrite_waits h) (fun _ h => interruptWrite_waits h)
    (fun _ h => interruptWrite_waits h) (fun _ h => h) (fun _ _ h => h)

/-- Without power, or held by RSTN, a command that is none of the three leaves the state (log 11). -/
theorem exec_down (c : Instr) {s : State} (down : s.power ≠ .up) (powerOn : ∀ p, c ≠ .powerOn p)
    (release : ∀ p, c ≠ .rstnRelease p) (loss : ∀ t, c ≠ .powerLoss t) : exec c s = .next s := by
  have stays (f : State → State) : (Host.Outcome.next (whenUp f s) : Answer) = .next s :=
    congrArg _ (whenUp_down down)
  cases c
  case powerOn p => exact absurd rfl (powerOn p)
  case rstnRelease p => exact absurd rfl (release p)
  case powerLoss t => exact absurd rfl (loss t)
  all_goals exact stays _

/-- Settles O2: each command is a total function of the state, and keeps the queue. -/
theorem everyCommandCompletes : Obligations.EveryCommandCompletes := by
  refine ⟨fun c s => ?_, fun c s down => exec_down c down⟩
  obtain ⟨t, taken⟩ : ∃ t, exec c s = .next t := by cases c <;> exact ⟨_, rfl⟩
  exact ⟨t, taken, (waits_keptByCommands s.pending).exec c (s := s) rfl taken⟩

/-! ## The reset state (logs 5 and 6) -/

/-- The inputs at the reset: NORMAL, with no window, at the raw level (R67). -/
theorem initial_inputAgrees : InputAgrees Input.initial := .settled rfl rfl rfl

/-- Settles O60: each block's reset values meet its agreement. -/
theorem resetMeetsTheAgreements : Obligations.ResetMeetsTheAgreements := by
  have shot := (shotAgrees_iff State.reset).1 (initial_shotAgrees 0 0)
  have switches := (switchesAgree_iff State.reset).1 (initial_switchesAgree 0 0)
  refine ⟨?link, shot.1, shot.2, switches.1, switches.2, ?inputs, ?sync, ?heat,
    (codesSafe_iff _).1 (codesSafe_zero _), (listsWithin_iff _).1 initial_listsWithin⟩
  case link => exact (linkBounded_iff_within _).2 (OrderBounded.nil.note (by simp))
  case inputs => intro k; simpa [State.reset] using initial_inputAgrees
  case sync => simp [SyncAgrees, State.reset, TimeBase.initial]
  case heat =>
    refine (heatBounded_iff _).2 fun o => ?_
    have current : ¬ (outletOf o).val < 4 := by simp [outletOf]
    simp only [State.reset, Supervision.initial, Calibration.initial, Thermal.initial, CalRecord.default,
      Bank.get_fill, Bank.get_ofFn, if_neg current]
    omega

end Sys2Proof.Machine
end

section
/-! PROOFS. The receive assembler (R173, R174): what a character does in each state of the assembler, and a
whole frame taken character by character. -/

namespace Sys2Proof.Machine

/-! ## A character taken by the assembler -/

theorem exec_rxCharacter (t : Time) (ch : Byte) (good : Bool) {s : State} (up : s.power = .up) :
    exec (.rxCharacter t ch good) s = .next (receive (s.advance t).now ch good (s.advance t)) :=
  congrArg Host.Outcome.next (whenUp_up up)

theorem Assembler.late_iff (a : Assembler) (t : Time) :
    a.late t = true ↔ a.phase ≠ .hunting ∧ 2000 < elapsed a.last t := by
  simp [Assembler.late]

/-- Within the gap a character is taken as it comes; a character error abandons a frame (R173). -/
theorem receive_timely {t : Time} {ch : Byte} {good : Bool} {s : State} (timely : s.link.rx.late t = false) :
    receive t ch good s =
      if good then takeCharacter t ch s else if s.link.rx.phase = .hunting then s else abandon s := by
  unfold receive
  simp only [timely]
  rfl

/-- After too long a gap the frame has failed, and the character is taken in HUNTING (R173). -/
theorem receive_late {t : Time} {ch : Byte} {s : State} (late : s.link.rx.late t = true) :
    receive t ch true s = takeCharacter t ch (abandon s) := by
  unfold receive
  simp only [late]
  rfl

theorem Link.dueNote_rx (l : Link) : l.dueNote.rx = l.rx := by
  unfold Link.dueNote
  split
  · rfl
  · split <;> rfl

theorem Link.raise_rx (l : Link) (k : Notice) : (l.raise k).rx = l.rx := by
  unfold Link.raise
  split
  · rfl
  · dsimp only
    split
    · exact Link.dueNote_rx _
    · rfl

theorem abandon_hunting (s : State) : (abandon s).link.rx.phase = .hunting := by
  unfold abandon
  rw [State.raise_link, Link.raise_rx]

theorem takeCharacter_hunting {t : Time} {ch : Byte} {s : State} (hunting : s.link.rx.phase = .hunting) :
    takeCharacter t ch s = { s with link := { s.link with rx := hunt t ch s.link.rx } } := by
  unfold takeCharacter
  simp only [hunting]

theorem takeCharacter_noise {t : Time} {ch : Byte} {s : State} (hunting : s.link.rx.phase = .hunting)
    (noise : ch ≠ 0xC5) : takeCharacter t ch s = s := by
  rw [takeCharacter_hunting hunting, hunt, if_neg noise]

theorem takeCharacter_tooLong {t : Time} {ch : Byte} {s : State} (length : s.link.rx.phase = .length)
    (long : 250 < ch.toNat) : takeCharacter t ch s = abandon s := by
  unfold takeCharacter
  simp only [length, long, if_true]

/-- The states in which a character is collected. -/
def Assembler.Collects (a : Assembler) (ch : Byte) : Prop :=
  a.phase = .length ∧ ch.toNat ≤ 250 ∨ a.phase = .tag ∨ a.phase = .kind ∨ a.phase = .body ∨ a.phase = .crcHigh

theorem takeCharacter_collects {t : Time} {ch : Byte} {s : State} (collects : s.link.rx.Collects ch) :
    takeCharacter t ch s = { s with link := { s.link with rx := collect t ch s.link.rx } } := by
  unfold takeCharacter
  rcases collects with ⟨phase, short⟩ | phase | phase | phase | phase <;> simp only [phase]
  rw [if_neg (by omega)]

theorem takeCharacter_last {t : Time} {ch : Byte} {s : State} (last : s.link.rx.phase = .crcLow) :
    takeCharacter t ch s = completeFrame ch s := by
  unfold takeCharacter
  simp only [last]

/-- What each character makes of the assembler (R173). -/
theorem collect_length {t : Time} {ch : Byte} {a : Assembler} (h : a.phase = .length) :
    collect t ch a = { a with phase := .tag, len := ch.toNat, last := t } := by
  unfold collect
  simp only [h]

theorem collect_tag {t : Time} {ch : Byte} {a : Assembler} (h : a.phase = .tag) :
    collect t ch a = { a with phase := .kind, tag := ch, last := t } := by
  unfold collect
  simp only [h]

theorem collect_kind {t : Time} {ch : Byte} {a : Assembler} (h : a.phase = .kind) :
    collect t ch a = { a with phase := if a.len = 0 then .crcHigh else .body, kind := ch, last := t } := by
  unfold collect
  simp only [h]

theorem collect_body {t : Time} {ch : Byte} {a : Assembler} (h : a.phase = .body) :
    collect t ch a = { a with phase := if a.len ≤ a.body.length + 1 then .crcHigh else .body,
                              body := a.body ++ [ch], last := t } := by
  unfold collect
  simp only [h]

theorem collect_crcHigh {t : Time} {ch : Byte} {a : Assembler} (h : a.phase = .crcHigh) :
    collect t ch a = { a with phase := .crcLow, crcHigh := ch, last := t } := by
  unfold collect
  simp only [h]

/-! ## The table of R173 -/

/-- A character that is good and timely is taken. -/
theorem exec_taken {t : Time} {ch : Byte} {s : State} (up : s.power = .up)
    (timely : s.link.rx.phase ≠ .hunting → elapsed s.link.rx.last (s.advance t).now ≤ 2000) :
    exec (.rxCharacter t ch true) s = .next (takeCharacter (s.advance t).now ch (s.advance t)) := by
  have onTime : (s.advance t).link.rx.late (s.advance t).now = false := by
    rw [← Bool.not_eq_true, Assembler.late_iff]
    rintro ⟨frame, late⟩
    have := timely frame
    exact absurd late (by simpa using this)
  rw [exec_rxCharacter t ch true up, receive_timely onTime, if_pos rfl]

/-- A character error within a frame, in time (R173). -/
theorem exec_characterError {t : Time} {ch : Byte} {s : State} (up : s.power = .up)
    (frame : s.link.rx.phase ≠ .hunting) (timely : elapsed s.link.rx.last (s.advance t).now ≤ 2000) :
    exec (.rxCharacter t ch false) s = .next (abandon (s.advance t)) := by
  have onTime : (s.advance t).link.rx.late (s.advance t).now = false := by
    rw [← Bool.not_eq_true, Assembler.late_iff]
    rintro ⟨-, late⟩
    exact absurd late (by simpa using timely)
  rw [exec_rxCharacter t ch false up, receive_timely onTime, if_neg (by simp), State.advance_link, if_neg frame]

/-- A character after too long a gap (R173). -/
theorem exec_late {t : Time} {ch : Byte} {s : State} (up : s.power = .up)
    (frame : s.link.rx.phase ≠ .hunting) (late : 2000 < elapsed s.link.rx.last (s.advance t).now) :
    exec (.rxCharacter t ch true) s =
      .next (takeCharacter (s.advance t).now ch (abandon (s.advance t))) := by
  have overdue : (s.advance t).link.rx.late (s.advance t).now = true :=
    (Assembler.late_iff _ _).2 ⟨frame, late⟩
  rw [exec_rxCharacter t ch true up, receive_late overdue]

/-- Settles O4, row by row. -/
theorem charactersMoveTheAssembler : Obligations.CharactersMoveTheAssembler := by
  refine ⟨fun t ch s up timely => ?_, fun t ch s up frame => ⟨fun timely => ⟨?_, ?_, ?_⟩, ?_, ?_⟩⟩
  · have taken := exec_taken (ch := ch) up timely
    have collected (h : s.link.rx.Collects ch) : exec (.rxCharacter t ch true) s = .next
        { s.advance t with link := { s.link with rx := collect (s.advance t).now ch s.link.rx } } := by
      rw [taken, takeCharacter_collects (s := s.advance t) h]
      rfl
    refine ⟨fun hunting noise => ?_, fun hunting => ?_, fun hunting sync => ?_, fun phase short => ?_,
      fun phase => ?_, fun phase none => ?_, fun phase some => ?_, fun phase more => ?_,
      fun phase last => ?_, fun phase => ?_, fun phase match_ => ?_⟩
    · rw [taken, takeCharacter_noise (s := s.advance t) hunting noise]
    · have onTime : (s.advance t).link.rx.late (s.advance t).now = false := by
        simp [Assembler.late, hunting]
      rw [exec_rxCharacter t ch false up, receive_timely onTime, if_neg (by simp), State.advance_link,
        if_pos hunting]
    · refine ⟨hunt (s.advance t).now ch s.link.rx, ?_, ?_, ?_, ?_⟩
      · rw [taken, takeCharacter_hunting (s := s.advance t) hunting]
        rfl
      all_goals simp [hunt, sync]
    · rw [collected (.inl ⟨phase, short⟩), collect_length phase]
    · rw [collected (.inr (.inl phase)), collect_tag phase]
    · rw [collected (.inr (.inr (.inl phase))), collect_kind phase, if_pos none]
    · rw [collected (.inr (.inr (.inl phase))), collect_kind phase, if_neg some]
    · rw [collected (.inr (.inr (.inr (.inl phase)))), collect_body phase, if_neg (by omega), ← phase]
    · rw [collected (.inr (.inr (.inr (.inl phase)))), collect_body phase, if_pos (by omega)]
    · rw [collected (.inr (.inr (.inr (.inr phase)))), collect_crcHigh phase]
    · rw [taken, takeCharacter_last (s := s.advance t) phase, completeFrame]
      exact congrArg Host.Outcome.next (if_pos match_)
  · intro phase long
    rw [exec_taken up fun _ => timely, takeCharacter_tooLong (s := s.advance t) phase long]
    rfl
  · rw [exec_characterError up frame timely]
    rfl
  · intro phase mismatch
    rw [exec_taken up fun _ => timely, takeCharacter_last (s := s.advance t) phase, completeFrame]
    exact congrArg Host.Outcome.next (if_neg mismatch)
  · intro late noise
    rw [exec_late up frame late, takeCharacter_noise (abandon_hunting _) noise]
    rfl
  · intro late
    refine ⟨_, exec_late up frame late, ?_, ?_⟩
    · rw [takeCharacter_hunting (abandon_hunting _)]
      simp [hunt]
    · rw [takeCharacter_hunting (abandon_hunting _)]
      rfl

/-! ## A whole frame -/

theorem elapsed_after (t : Time) {n : Nat} (small : n < 2 ^ 48) : elapsed t (after t n) = n := by
  unfold elapsed after
  rw [BitVec.add_comm, BitVec.add_sub_cancel, BitVec.toNat_ofNat, Nat.mod_eq_of_lt small]

theorem laterOf_after (t : Time) {n : Nat} (small : n < 2 ^ 47) : laterOf t (after t n) = after t n := by
  unfold laterOf atOrAfter
  rw [elapsed_after t (by omega), decide_eq_true small, if_pos rfl]

theorem after_after (t : Time) (m n : Nat) : after (after t m) n = after t (m + n) := by
  simp only [after, BitVec.add_assoc, BitVec.ofNat_add]

/-- The state with an assembler and an engine time of its own. -/
def State.assembling (s : State) (now : Time) (rx : Assembler) : State :=
  { s with now, link := { s.link with rx } }

section
variable {s : State} {gap : Nat} (up : s.power = .up) (near : gap ≤ 2000)
include up near

/-- The next character of a frame, in time. -/
theorem feed_cons {now : Time} {a : Assembler} (timely : a.phase = .hunting ∨ a.last = now) (ch : Byte)
    (rest : List Byte) : feed gap (ch :: rest) (s.assembling now a) =
      feed gap rest (takeCharacter (after now gap) ch (s.assembling (after now gap) a)) := by
  have moved : (s.assembling now a).advance (after now gap) = s.assembling (after now gap) a :=
    congrArg (fun t => s.assembling t a) (laterOf_after now (by omega))
  have taken := exec_taken (t := after now gap) (ch := ch) (s := s.assembling now a) up (by
    rw [moved]
    intro frame
    rcases timely with hunting | rfl
    · exact absurd hunting frame
    · exact (elapsed_after a.last (by omega)).le.trans near)
  rw [moved] at taken
  rw [feed]
  change (match exec (.rxCharacter (after now gap) ch true) (s.assembling now a) with
    | .next t => feed gap rest t
    | .fault _ => s.assembling now a
    | .refused _ => s.assembling now a) = _
  rw [taken]
  rfl

theorem feed_collects {now : Time} {a : Assembler} (last : a.last = now) {ch : Byte} (collects : a.Collects ch)
    (rest : List Byte) : feed gap (ch :: rest) (s.assembling now a) =
      feed gap rest (s.assembling (after now gap) (collect (after now gap) ch a)) := by
  rw [feed_cons up near (.inr last), takeCharacter_collects (s := s.assembling (after now gap) a) collects]
  rfl

/-- The sync character (R173). -/
theorem feed_sync {now : Time} {a : Assembler} (hunting : a.phase = .hunting) (rest : List Byte) :
    feed gap (0xC5 :: rest) (s.assembling now a) = feed gap rest (s.assembling (after now gap)
      { a with phase := .length, len := 0, tag := 0, kind := 0, body := [], last := after now gap }) := by
  rw [feed_cons up near (.inl hunting),
    takeCharacter_hunting (s := s.assembling (after now gap) a) hunting, hunt, if_pos rfl]
  rfl

/-- The body of a frame, when it is not empty (R173). -/
theorem feed_body {now : Time} {a : Assembler} (last : a.last = now) (phase : a.phase = .body)
    {body : List Byte} (some : body ≠ []) (len : a.len = a.body.length + body.length) (rest : List Byte) :
    feed gap (body ++ rest) (s.assembling now a) =
      feed gap rest (s.assembling (after now (gap * body.length))
        { a with phase := .crcHigh, body := a.body ++ body, last := after now (gap * body.length) }) := by
  induction body generalizing now a with
  | nil => exact absurd rfl some
  | cons ch more ih =>
    rw [List.cons_append, feed_collects up near last (.inr (.inr (.inr (.inl phase)))), collect_body phase]
    have length : (ch :: more).length = more.length + 1 := rfl
    by_cases final : more = []
    · subst final
      rw [if_pos (by rw [len]; simp)]
      simp
    · have positive : 0 < more.length := List.length_pos_iff.2 final
      rw [if_neg (by omega), ih (now := after now gap) rfl rfl final (by simp; omega)]
      simp only [after_after, List.append_assoc, List.cons_append, List.nil_append, length]
      rw [show gap + gap * more.length = gap * (more.length + 1) by rw [Nat.mul_succ]; omega]

end

/-- The two bytes of a CRC on the line, and the CRC they give (R174). -/
theorem crcBytes_eq (c : BitVec 16) : ∃ high low : Byte, toBytes 2 c.toNat = [high, low] ∧ c = high ++ low := by
  refine ⟨BitVec.ofNat 8 (c.toNat / 256), BitVec.ofNat 8 c.toNat, rfl, BitVec.eq_of_toNat_eq ?_⟩
  have small := c.isLt
  rw [BitVec.toNat_append, BitVec.toNat_ofNat, BitVec.toNat_ofNat,
    ← Nat.shiftLeft_add_eq_or_of_lt (Nat.mod_lt _ (by decide)), Nat.shiftLeft_eq]
  omega

/-- The assembler with a frame but for its CRC, after `n` gaps. -/
def framed (now : Time) (f : Frame) (phase : RxPhase) (high : Byte) : Assembler :=
  { phase, len := f.body.length, tag := f.tag, kind := f.kind, body := f.body, crcHigh := high, last := now }

/-- The characters of a frame before its CRC (R173). -/
theorem feed_core {s : State} {gap : Nat} (up : s.power = .up) (near : gap ≤ 2000) (f : Frame)
    (hunting : s.link.rx.phase = .hunting) (short : f.body.length ≤ 250) (rest : List Byte) :
    feed gap (0xC5 :: frameCore f ++ rest) s =
      feed gap rest (s.assembling (after s.now (gap * (f.body.length + 4)))
        (framed (after s.now (gap * (f.body.length + 4))) f .crcHigh s.link.rx.crcHigh)) := by
  have byte : (BitVec.ofNat 8 f.body.length).toNat = f.body.length := by
    rw [BitVec.toNat_ofNat]
    omega
  change feed gap (0xC5 :: BitVec.ofNat 8 f.body.length :: f.tag :: f.kind :: (f.body ++ rest))
    (s.assembling s.now s.link.rx) = _
  rw [feed_sync up near hunting,
    feed_collects up near (now := after s.now gap) rfl (.inl ⟨rfl, byte.le.trans short⟩), collect_length rfl,
    feed_collects up near (now := after (after s.now gap) gap) rfl (.inr (.inl rfl)), collect_tag rfl,
    feed_collects up near (now := after (after (after s.now gap) gap) gap) rfl (.inr (.inr (.inl rfl))),
    collect_kind rfl]
  simp only [after_after, byte]
  by_cases empty : f.body = []
  · rw [if_pos (by simp [empty])]
    simp only [framed, empty, List.nil_append, List.length_nil]
    rw [show gap + gap + gap + gap = gap * (0 + 4) by omega]
  · have positive : 0 < f.body.length := List.length_pos_iff.2 empty
    rw [if_neg (by omega),
      feed_body up near (now := after s.now (gap + gap + gap + gap)) rfl rfl empty (by simp)]
    simp only [after_after, List.nil_append, framed]
    rw [show gap + gap + gap + gap + gap * f.body.length = gap * (f.body.length + 4) by
      rw [Nat.mul_add]; omega]

/-- Settles O3: the characters before the CRC, and then its two bytes, which match. -/
theorem frameOnTheLineReachesTheQueue : Obligations.FrameOnTheLineReachesTheQueue := by
  intro f s gap up hunting short near
  obtain ⟨high, low, bytes, match_⟩ := crcBytes_eq (crc (frameCore f))
  refine ⟨framed (after s.now (gap * (f.body.length + 5))) f .hunting high, rfl, ?_⟩
  rw [frameBytes, bytes, feed_core up near f hunting short]
  generalize sent : after s.now (gap * (f.body.length + 4)) = now
  rw [feed_collects up near (now := now) (a := framed now f .crcHigh s.link.rx.crcHigh) rfl
      (.inr (.inr (.inr (.inr rfl)))), collect_crcHigh rfl,
    feed_cons up near (now := after now gap) (.inr rfl), takeCharacter_last rfl, completeFrame, ← sent]
  simp only [after_after]
  rw [show gap * (f.body.length + 4) + gap = gap * (f.body.length + 5) by rw [← Nat.mul_succ],
    show gap * (f.body.length + 5) + gap = gap * (f.body.length + 6) by rw [← Nat.mul_succ]]
  exact if_pos match_

end Sys2Proof.Machine
end

section
/-! PROOFS. The request queue, BUSY, and the order of the frames sent (R176 to R178), and the notices
(R181 to R183). -/

namespace Sys2Proof.Machine

/-! ## Requests (R176 to R178) -/

/-- A request command hands its frame to the link (R175). -/
theorem exec_request {c : Instr} {t : Time} {f : Frame} (asks : requestOf c = some (t, f)) (s : State) :
    exec c s = .next (request t f s) := by
  cases c <;> cases asks <;> rfl

theorem exec_submit {c : Instr} {t : Time} {f : Frame} (asks : requestOf c = some (t, f)) {s : State}
    (up : s.power = .up) : exec c s = .next (submit f (s.advance t)) := by
  rw [exec_request asks, request_up up]

/-- Without room the queue stands (R176). -/
theorem serve_blocked (fuel : Nat) {s : State} (blocked : mayExecute s = false) : serve fuel s = s := by
  unfold serve
  split
  · rfl
  · split
    · rfl
    · rw [blocked]
      rfl

theorem serve_empty (fuel : Nat) {s : State} (empty : s.link.queue = []) : serve fuel s = s := by
  cases fuel with
  | zero => rfl
  | succ n =>
    unfold serve
    rw [empty]

theorem serve_taken (fuel : Nat) {s : State} {f : Frame} {rest : List Frame} (head : s.link.queue = f :: rest)
    (may : mayExecute s = true) : serve (fuel + 1) s = serve fuel (execute f s) := by
  rw [serve]
  rw [head]
  exact if_pos may

theorem submit_held (f : Frame) {s : State} (awake : s.link.resetting = false) (room : s.link.queue.length < 2) :
    submit f s = serve 2 { s with link := { s.link with queue := s.link.queue ++ [f] } } := by
  unfold submit
  rw [awake, if_neg (by simp), if_pos room]

theorem submit_full (f : Frame) {s : State} (awake : s.link.resetting = false) (full : s.link.queue.length = 2) :
    submit f s = refuseBusy f s := by
  unfold submit
  rw [awake, if_neg (by simp), if_neg (by omega)]

/-- Settles O5, by the length of the queue. -/
theorem requestQueueHoldsTwo : Obligations.RequestQueueHoldsTwo := by
  intro c t f s asks up awake
  rw [exec_submit asks up]
  refine ⟨fun room blocked => ?_, fun full few => ?_, fun full many => ?_⟩
  · rw [submit_held f (s := s.advance t) awake room]
    exact congrArg Host.Outcome.next (serve_blocked 2 blocked)
  · rw [submit_full f (s := s.advance t) awake full]
    exact congrArg Host.Outcome.next (if_pos few)
  · rw [submit_full f (s := s.advance t) awake full]
    exact congrArg Host.Outcome.next (if_neg (Nat.not_lt.2 many))

/-- A request that the first checks refuse (R178). -/
theorem LinkFree.request_refused {s : State} (h : LinkFree s) (t : Time) (f : Frame) (why : Status)
    (refuses : ∀ u, respond f u = atOnce (refused why u)) :
    request t f s = (s.advance t).replied f [why.code] :=
  h.request_replied (z := s.advance t) h.noRequest (refuses _)

/-- Settles O6: the two checks come before the block. -/
theorem malformedRequestsAreRefused : Obligations.MalformedRequestsAreRefused := by
  refine ⟨fun t tag kind body s h unknown => ?_, fun c t f s asks h known bad => ?_⟩
  · refine congrArg Host.Outcome.next (h.request_refused t { kind, tag, body } .unknownKind fun u => ?_)
    simp only [respond, unknown, Bool.not_false, if_true]
  · rw [exec_request asks]
    refine congrArg Host.Outcome.next (h.request_refused t f .badLength fun u => ?_)
    simp only [respond, known, bad, Bool.not_true, Bool.not_false, if_true, Bool.false_eq_true, if_false]

/-! ## The frames sent (R176, R177) -/

theorem exec_frameSent (t : Time) (first : Bool) {s : State} (up : s.power = .up) :
    exec (.frameSent t first) s = .next (frameSent first (s.advance t)) :=
  congrArg Host.Outcome.next (whenUp_up up)

theorem mayExecute_iff (s : State) :
    mayExecute s = true ↔ s.cal.write = none ∧ s.link.resetting = false ∧ s.link.replies < 2 := by
  simp [mayExecute, and_assoc]

theorem mayExecute_eq_false {s : State}
    (no : ¬ (s.cal.write = none ∧ s.link.resetting = false ∧ s.link.replies < 2)) : mayExecute s = false := by
  rwa [← mayExecute_iff, Bool.not_eq_true] at no

/-- One request is executed at most when none waits, or none may be executed, behind it. -/
theorem serve_stops (fuel : Nat) {s : State} (stops : s.link.queue = [] ∨
    ¬ (s.cal.write = none ∧ s.link.resetting = false ∧ s.link.replies < 2)) : serve fuel s = s :=
  stops.elim (serve_empty fuel) fun no => serve_blocked fuel (mayExecute_eq_false no)

/-- What FRAME_SENT makes of an order that does not begin with the reply of ERST (R177). -/
theorem exec_frameSent_leaves (t : Time) (first : Bool) {s : State} {f : TxFrame} {rest : List TxFrame}
    (up : s.power = .up) (order : s.link.order = f :: rest) (other : f.what ≠ .resetReply) :
    exec (.frameSent t first) s = .next (leaveOrder f rest first (s.advance t)) := by
  rw [exec_frameSent t first up]
  unfold frameSent
  rw [State.advance_link, order]
  exact congrArg Host.Outcome.next (if_neg other)

/-- A NOTE that leaves brings the further one that is due (log 12). -/
theorem Link.afterNote_eq (l : Link) (f : TxFrame) (rest : List TxFrame) :
    Link.afterNote f { l with order := rest } =
      if f.what = .note ∧ l.noteDue = true then { l with order := rest ++ [waitingNote], noteDue := false }
      else { l with order := rest } := rfl

/-- A link whose first frame is being sent, with one reply in its order. -/
structure Link.OneReply (l : Link) : Prop where
  sending : ∃ f rest, l.order = f :: rest ∧ f.formed = true
  one : l.replies = 1

theorem transmit_sending {l : Link} {f : TxFrame} {rest : List TxFrame} (order : l.order = f :: rest)
    (formed : f.formed = true) : l.transmit = l := by
  unfold Link.transmit
  rw [order, beginHead_formed l f rest formed, ← order]

/-- A frame joins behind the one that is being sent (R177). -/
theorem Link.OneReply.join_order {l : Link} (h : l.OneReply) (g : TxFrame) :
    (l.join g).order = l.order ++ [g] := by
  obtain ⟨f, rest, order, formed⟩ := h.sending
  unfold Link.join
  rw [transmit_sending (f := f) (rest := rest ++ [g]) (by simp [order]) formed]

theorem oneReply_noted : LinkNoted fun l _ => l.OneReply where
  sets _ _ _ _ h := ⟨h.sending, h.one⟩
  due l _ h := by
    unfold Link.dueNote
    split
    · obtain ⟨f, rest, order, formed⟩ := h.sending
      refine ⟨⟨f, rest ++ [waitingNote], by rw [h.join_order, order]; rfl, formed⟩, ?_⟩
      unfold Link.replies
      rw [h.join_order, List.filter_append, List.length_append]
      exact h.one
    · split
      · exact ⟨h.sending, h.one⟩
      · exact h

/-- Behind the execution of a request, with a reply in the order, there is no room for another (R176). -/
theorem execute_fills (g : Frame) {s : State} (one : s.link.OneReply) : (execute g s).link.queue = [] ∨
    ¬ ((execute g s).cal.write = none ∧ (execute g s).link.resetting = false ∧
      (execute g s).link.replies < 2) := by
  have left := oneReply_noted.respond g (s := s) one
  unfold execute
  split
  case h_1 u body answered =>
    rw [answered] at left
    obtain holds | ⟨w, writes, -⟩ := left
    · refine .inr fun room => absurd room.2.2 (Nat.not_lt.2 ?_)
      have behind : u.link.dequeue.OneReply := ⟨holds.sending, holds.one⟩
      have joined := behind.join_order (replyFrame .reply g body)
      have two : (answer .reply g body u).link.replies = u.link.replies + 1 := by
        change ((u.link.dequeue.join _).order.filter _).length = _
        rw [joined, List.filter_append, List.length_append]
        rfl
      rw [two, holds.one]
    · cases writes
  case h_2 => exact .inl rfl
  case h_3 u w writes =>
    rw [respond_writing writes]
    exact .inr fun room => by simp at room

/-- The state has room for the execution of a request (R176, R179, R186). -/
def State.HasRoom (s : State) : Prop :=
  s.cal.write = none ∧ s.link.resetting = false ∧ s.link.replies < 2

/-- The queue served: two requests at most, one after another, each while there is room (R176). -/
theorem serve_two (s : State) :
    (s.link.queue = [] ∨ ¬ s.HasRoom → serve 2 s = s) ∧
    ∀ g behind, s.link.queue = g :: behind → s.HasRoom →
      ((execute g s).link.queue = [] ∨ ¬ (execute g s).HasRoom → serve 2 s = execute g s) ∧
      ∀ h behind', (execute g s).link.queue = h :: behind' → (execute g s).HasRoom →
        serve 2 s = execute h (execute g s) := by
  refine ⟨serve_stops 2, fun g behind head room => ?_⟩
  rw [serve_taken 1 head ((mayExecute_iff s).2 room)]
  refine ⟨serve_stops 1, fun h behind' next again => ?_⟩
  rw [serve_taken 0 next ((mayExecute_iff _).2 again)]
  rfl

/-- The state in which the first frame has left the order, with no NOTE due behind it (R177). -/
def State.leaving (s : State) (t : Time) (rest : List TxFrame) : State :=
  { s.advance t with link := { s.link with order := rest } }

/-- Settles O7: the queue is served behind the transmission that begins, or before it. -/
theorem sentFramesMakeRoom : Obligations.SentFramesMakeRoom := by
  refine ⟨fun t s up empty first => ?_, fun t s f rest up order other => ⟨?_, ?_, ?_⟩⟩
  · rw [exec_frameSent t first up]
    unfold frameSent
    rw [State.advance_link, empty]
  · exact ⟨_, serve_two _, exec_frameSent_leaves t false up order other⟩
  · exact ⟨_, serve_two _, exec_frameSent_leaves t true up order other⟩
  · intro g behind reply queue two formed awake free
    have ends : ¬ (f.what = .note ∧ s.link.noteDue = true) := by simp [reply]
    have count : (s.leaving t rest).link.replies = 1 := by
      have all : s.link.replies = (s.leaving t rest).link.replies + 1 := by
        simp [Link.replies, State.leaving, order, reply]
      omega
    obtain ⟨h, more, behindIt⟩ : ∃ h more, rest = h :: more := by
      cases rest with
      | nil => simp [Link.replies, State.leaving] at count
      | cons h more => exact ⟨h, more, rfl⟩
    have sending : h.formed = true := formed h (by simp [behindIt])
    have left : leaveOrder f rest false (s.advance t) = serve 2 (s.leaving t rest) := by
      unfold leaveOrder
      rw [if_neg (by simp), State.advance_link, Link.afterNote_eq, if_neg ends]
      unfold State.transmit
      rw [transmit_sending (l := { s.link with order := rest }) behindIt sending]
      rfl
    rw [exec_frameSent_leaves t false up order other, left, serve_taken 1 (s := s.leaving t rest) queue
      ((mayExecute_iff _).2 ⟨free, awake, by omega⟩)]
    exact congrArg Host.Outcome.next (serve_stops 1 (execute_fills g ⟨⟨h, more, behindIt, sending⟩, count⟩))

/-! ## Notices (R181 to R183) -/

/-- The link whose pending set has one kind more. -/
def Link.noted (l : Link) (k : Notice) : Link := { l with noticeSet := l.noticeSet.set k.bit true }

/-- A kind that is pending already changes nothing (R181). -/
theorem Link.raise_pending {l : Link} {k : Notice} (pending : l.noticeSet.get k.bit = true) : l.raise k = l := by
  unfold Link.raise
  rw [if_pos pending]

theorem Link.raise_disabled {l : Link} {k : Notice} (fresh : l.noticeSet.get k.bit = false)
    (masked : l.mask.get k.bit = false) : l.raise k = l.noted k := by
  unfold Link.raise
  rw [fresh, masked]
  rfl

theorem Link.raise_enabled {l : Link} {k : Notice} (fresh : l.noticeSet.get k.bit = false)
    (enabled : l.mask.get k.bit = true) : l.raise k = (l.noted k).dueNote := by
  unfold Link.raise
  rw [fresh, enabled]
  rfl

theorem Link.dueNote_noticeSet (l : Link) : l.dueNote.noticeSet = l.noticeSet := by
  unfold Link.dueNote
  split
  · rfl
  · split <;> rfl

/-- No NOTE stands in the order: one joins (R181). -/
theorem Link.dueNote_joins {l : Link} (free : (l.order.find? fun f => f.what == .note) = none) :
    l.dueNote = l.join waitingNote := by
  unfold Link.dueNote
  rw [free]

/-- A NOTE stands in the order: it will carry the kind, or a further one is due (log 12). -/
theorem Link.dueNote_stands {l : Link} {f : TxFrame}
    (stands : (l.order.find? fun f => f.what == .note) = some f) :
    l.dueNote = if f.formed then { l with noteDue := true } else l := by
  unfold Link.dueNote
  rw [stands]

/-- A NOTE whose turn has come (R181). -/
theorem beginHead_waiting (l : Link) (rest : List TxFrame) : beginHead l (waitingNote :: rest) =
    if l.anyReportable then ⟨.note, true, noteFrame l⟩ :: rest else beginHead l rest := by
  rw [beginHead]
  rfl

/-- What a NOTE carries is decided by the pending set and the mask alone (R181). -/
theorem beginHead_congr {l l' : Link} (noticeSet : l'.noticeSet = l.noticeSet) (mask : l'.mask = l.mask)
    (frames : List TxFrame) : beginHead l' frames = beginHead l frames := by
  have each : l'.reportable = l.reportable := funext fun i => by simp only [Link.reportable, noticeSet, mask]
  have reports : l'.anyReportable = l.anyReportable := by simp only [Link.anyReportable, each]
  have note : noteFrame l' = noteFrame l := by simp only [noteFrame, noticeSet]
  induction frames with
  | nil => rfl
  | cons f rest ih => rw [beginHead, beginHead, ih, reports, note]

theorem reportable_of_pending {l : Link} {i : Fin 12} (pending : l.noticeSet.get i = true)
    (enabled : l.mask.get i = true) : l.anyReportable = true := by
  unfold Link.anyReportable
  rw [List.any_eq_true]
  exact ⟨i, List.mem_finRange i, by simp [Link.reportable, pending, enabled]⟩

theorem Link.noted_pending (l : Link) (k : Notice) : (l.noted k).noticeSet.get k.bit = true := by
  simp [Link.noted]

/-- Settles O8, by what stands in the transmit order. -/
theorem noticesJoinThePendingSet : Obligations.NoticesJoinThePendingSet := by
  refine ⟨fun s k pending => ?_, fun s k fresh => ⟨?_, fun masked => ?_, fun enabled empty => ?_,
    fun f rest enabled order formed none => ?_, fun f enabled stands => ⟨fun formed => ?_, fun waits => ?_⟩⟩,
    fun l rest order => ⟨fun reportable => ?_, fun silent => ?_⟩⟩
  · unfold State.raise
    rw [Link.raise_pending pending]
  · rw [State.raise_link]
    cases enabled : s.link.mask.get k.bit with
    | false => rw [Link.raise_disabled fresh enabled]; rfl
    | true => rw [Link.raise_enabled fresh enabled, Link.dueNote_noticeSet]; rfl
  · unfold State.raise
    rw [Link.raise_disabled fresh masked]
    rfl
  · have joined : (s.raise k).link = (s.link.noted k).join waitingNote := by
      rw [State.raise_link, Link.raise_enabled fresh enabled]
      exact Link.dueNote_joins (by simp [Link.noted, empty])
    rw [joined]
    change beginHead { s.link.noted k with order := s.link.order ++ [waitingNote] }
      (s.link.order ++ [waitingNote]) = _
    rw [empty, List.nil_append, beginHead_waiting, if_pos]
    · rfl
    · exact reportable_of_pending (s.link.noted_pending k) enabled
  · have free : (s.link.order.find? fun g => g.what == .note) = Option.none := by
      rw [List.find?_eq_none]
      intro g hg isNote
      have : g ∈ s.link.order.filter fun f => f.what == .note := List.mem_filter.2 ⟨hg, isNote⟩
      rw [List.length_eq_zero_iff.1 (show _ = 0 from none)] at this
      cases this
    rw [State.raise_link, Link.raise_enabled fresh enabled]
    rw [Link.dueNote_joins (l := s.link.noted k) free, Link.join]
    rw [transmit_sending (f := f) (rest := rest ++ [waitingNote]) (by simp [Link.noted, order]) formed]
    rfl
  · unfold State.raise
    rw [Link.raise_enabled fresh enabled]
    rw [Link.dueNote_stands (l := s.link.noted k) stands, formed]
    rfl
  · unfold State.raise
    rw [Link.raise_enabled fresh enabled]
    rw [Link.dueNote_stands (l := s.link.noted k) stands, waits]
    rfl
  · unfold Link.transmit
    rw [order, beginHead_waiting, if_pos reportable]
    rfl
  · unfold Link.transmit
    rw [order, beginHead_waiting, if_neg (by simp [silent]),
      ← beginHead_congr (l := l) (l' := { l with order := rest }) rfl rfl rest]

end Sys2Proof.Machine
end

section
/-! PROOFS. NMSK, NACK, GINF and GSTA (R182 to R185): what each block answers, and the reply of GSTA in the
layout of R191. -/

namespace Sys2Proof.Machine

/-! ## NMSK and NACK (R182, R183) -/

theorem Link.join_requeued (l : Link) (queue : List Frame) (f : TxFrame) :
    ({ l with queue } : Link).join f = { l.join f with queue } :=
  congrArg (fun order : List TxFrame => ({ l with queue, order } : Link)) (beginHead_congr (by rfl) (by rfl) _)

/-- The queue of requests decides no notice (R181). -/
theorem Link.dueNote_requeued (l : Link) (queue : List Frame) :
    ({ l with queue } : Link).dueNote = { l.dueNote with queue } := by
  unfold Link.dueNote
  dsimp only
  split
  · exact Link.join_requeued l queue waitingNote
  · split <;> rfl

/-- A mask that enables no pending kind makes no NOTE due, and one that does makes one due (R182). -/
theorem Link.setMask_eq (l : Link) (mask : Bank Bool 12) : l.setMask mask =
    if ∃ i, l.noticeSet.get i = true ∧ mask.get i = true ∧ l.mask.get i = false then
      ({ l with mask } : Link).dueNote
    else { l with mask } := by
  unfold Link.setMask
  dsimp only
  refine if_congr ?_ rfl rfl
  rw [List.any_eq_true]
  refine exists_congr fun i => ?_
  simp only [Link.reportable]
  cases l.noticeSet.get i <;> simp

theorem Link.setMask_requeued (l : Link) (mask : Bank Bool 12) (queue : List Frame) :
    ({ l with queue } : Link).setMask mask = { l.setMask mask with queue } := by
  rw [Link.setMask_eq, Link.setMask_eq l]
  by_cases enables : ∃ i, l.noticeSet.get i = true ∧ mask.get i = true ∧ l.mask.get i = false
  · rw [if_pos enables, if_pos enables]
    exact Link.dueNote_requeued { l with mask } queue
  · rw [if_neg enables, if_neg enables]

theorem Link.setMask_queue (l : Link) (mask : Bank Bool 12) : (l.setMask mask).queue = l.queue := by
  unfold Link.setMask
  dsimp only
  split
  · exact Link.dueNote_queue _
  · rfl

theorem readNotices_within {b : List Byte} (h : field b 0 2 ≤ 4095) :
    readNotices b = some (setOf 12 (field b 0 2)) := by
  simp [readNotices, within, h]

theorem readNotices_refused {b : List Byte} (h : 4095 < field b 0 2) : readNotices b = none := by
  simp [readNotices, within, Nat.not_le.2 h]

section
variable {s : State} (h : LinkFree s) (t : Time) (tag : Byte) {body : List Byte} (two : body.length = 2)
include h two

theorem LinkFree.exec_nmsk {mask : Bank Bool 12} (named : readNotices body = some mask) :
    exec (.nmsk t tag body) s = .next (({ s.advance t with link := s.link.setMask mask } : State).replied
      { kind := 0x04, tag, body } [0x00]) := by
  refine h.answered t tag 0x04 body { s.advance t with link := s.link.setMask mask } [0x00] (by decide)
    (by simp [lengthOk, two]) ((Link.setMask_queue _ _).trans h.noRequest) ?_
  change atOnce (setNoticeMask body _) = _
  rw [setNoticeMask, named]
  dsimp only [State.queued, State.advance_link]
  rw [Link.setMask_requeued]
  rfl

theorem LinkFree.exec_nack {kinds : Bank Bool 12} (named : readNotices body = some kinds) :
    exec (.nack t tag body) s = .next (({ s.advance t with link := s.link.acknowledge kinds } : State).replied
      { kind := 0x05, tag, body } [0x00]) := by
  refine h.answered t tag 0x05 body { s.advance t with link := s.link.acknowledge kinds } [0x00] (by decide)
    (by simp [lengthOk, two]) h.noRequest ?_
  change atOnce (acknowledgeNotices body _) = _
  rw [acknowledgeNotices, named]
  rfl

theorem LinkFree.exec_nmsk_refused (none : readNotices body = none) :
    exec (.nmsk t tag body) s = .next ((s.advance t).replied { kind := 0x04, tag, body } [0x04]) := by
  refine h.answered t tag 0x04 body (s.advance t) [0x04] (by decide) (by simp [lengthOk, two]) h.noRequest ?_
  change atOnce (setNoticeMask body _) = _
  rw [setNoticeMask, none]
  rfl

theorem LinkFree.exec_nack_refused (none : readNotices body = none) :
    exec (.nack t tag body) s = .next ((s.advance t).replied { kind := 0x05, tag, body } [0x04]) := by
  refine h.answered t tag 0x05 body (s.advance t) [0x04] (by decide) (by simp [lengthOk, two]) h.noRequest ?_
  change atOnce (acknowledgeNotices body _) = _
  rw [acknowledgeNotices, none]
  rfl

end

theorem Link.dueNote_mask (l : Link) : l.dueNote.mask = l.mask := by
  unfold Link.dueNote
  split
  · rfl
  · split <;> rfl

theorem Link.setMask_sets (l : Link) (mask : Bank Bool 12) :
    (l.setMask mask).mask = mask ∧ (l.setMask mask).noticeSet = l.noticeSet := by
  unfold Link.setMask
  dsimp only
  split
  · exact ⟨Link.dueNote_mask _, Link.dueNote_noticeSet _⟩
  · exact ⟨rfl, rfl⟩

/-- Settles O9, by the bits 12 to 15 of the request. -/
theorem nmskAndNackSetTheNotices : Obligations.NmskAndNackSetTheNotices := by
  intro t tag body s h two
  refine ⟨fun small => ⟨h.exec_nmsk t tag two (readNotices_within small), ?_⟩, Link.setMask_sets _ _,
    fun none => ?_, fun i pending masked enabled => ?_,
    fun large => ⟨h.exec_nmsk_refused t tag two (readNotices_refused large),
      h.exec_nack_refused t tag two (readNotices_refused large)⟩⟩
  · rw [h.exec_nack t tag two (readNotices_within small)]
    have kept : s.link.noticeSet.mapIdx (fun i p => p && !(setOf 12 (field body 0 2)).get i) =
        .ofFn fun i => s.link.noticeSet.get i && !(field body 0 2).testBit i.val := by
      ext i
      simp [setOf]
    simp only [Link.acknowledge, kept]
  · rw [Link.setMask_eq, if_neg]
    rintro ⟨i, pending, enabled, masked⟩
    simp [none i pending enabled] at masked
  · rw [Link.setMask_eq, if_pos ⟨i, pending, enabled, masked⟩]

/-! ## GINF (R184) -/

/-- The serial number of the identity record, 0 when it failed its check (R184). -/
def Calibration.serialNumber (c : Calibration) : Nat := (c.serial.map (·.toNat)).getD 0

theorem LinkFree.exec_ginf {s : State} (h : LinkFree s) (t : Time) (tag : Byte) :
    exec (.ginf t tag []) s = .next ((s.advance t).replied { kind := 0x01, tag, body := [] }
      (0x00 :: (toBytes 2 Config.partCode ++ toBytes 1 Config.revision ++ toBytes 4 s.cal.serialNumber ++
        toBytes 1 (strapCode s.link.strap) ++ flagByte (strapService s.link.strap)))) :=
  h.answered t tag 0x01 [] (s.advance t) _ (by decide) rfl h.noRequest rfl

/-- Settles O10: the serial number as 4 bytes, and the mode as a flag. -/
theorem ginfIdentifiesTheEngine : Obligations.GinfIdentifiesTheEngine := by
  intro t tag s h
  refine ⟨toBytes 4 s.cal.serialNumber, flagByte (strapService s.link.strap), ?_, ?_, ?_, fun none => ?_,
    fun n some => ⟨toBytes_length _ _, ?_⟩⟩
  · rw [h.exec_ginf t tag]
    cases s.link.strap <;> rfl
  · cases s.link.strap <;> simp [strapService, flagByte]
  · cases s.link.strap <;> simp [strapService, flagByte]
  · rw [Calibration.serialNumber, none]
    rfl
  · rw [ofBytes_toBytes, Calibration.serialNumber, some]
    exact Nat.mod_eq_of_lt n.isLt

/-! ## GSTA (R185, R191) -/

/-- A reject set as fields (R190). -/
def rejectFields (l : List RejectSource) : List (Nat × Nat) :=
  [(2, bitField (plainSources.map l.contains)),
   (1, bitField ((List.finRange 6).map fun o => l.contains (.outletHot o))),
   (2, bitField ((List.finRange 10).map fun o => l.contains (.uncalibrated o)))]

/-- The usages of the six current outlets as fields (R185). -/
def usageFields (s : State) : List (Nat × Nat) :=
  [(2, usageOf s 0), (2, usageOf s 1), (2, usageOf s 2), (2, usageOf s 3), (2, usageOf s 4), (2, usageOf s 5)]

/-- The slots in each state as fields (R185). -/
def slotFields (r : ReportStore) : List (Nat × Nat) :=
  [(1, r.freeSlots), flagField (r.cur == .reserved), flagField (r.cur == .filling),
   (1, (r.held.filter fun h => h.unread).length), (1, (r.held.filter fun h => !h.unread).length)]

/-- The body of an OK reply to GSTA as fields, the status first. -/
def statusFields (s : State) : List (Nat × Nat) :=
  [(1, 0), (1, s.seq.st.code), flagField s.seq.commit, (2, s.seq.shotNo), (1, s.seq.cancel.code.1),
   (1, s.seq.cancel.code.2)] ++ rejectFields (rejectSet s) ++
  [flagField s.syn.map.reversed, (1, s.syn.map.arrangement.code), flagField s.syn.settle.isSome,
   (1, s.tb.sync.code), flagField s.tb.glitch, (1, (s.brk.get 0).code), (1, (s.brk.get 1).code)] ++
  usageFields s ++ slotFields s.rep ++
  [(2, bitField s.link.noticeSet.items), (2, bitField s.link.mask.items)]

theorem rejectBytes_eq_fieldsBytes (l : List RejectSource) : rejectBytes l = fieldsBytes (rejectFields l) := by
  simp [rejectBytes, rejectFields, fieldsBytes]

theorem usageBytes_eq_fieldsBytes (s : State) :
    ((List.finRange 6).flatMap fun o => toBytes 2 (usageOf s o)) = fieldsBytes (usageFields s) := by
  simp [usageFields, fieldsBytes, List.finRange_succ]

theorem slotBytes_eq_fieldsBytes (r : ReportStore) : r.slotBytes = fieldsBytes (slotFields r) := by
  simp [ReportStore.slotBytes, slotFields, fieldsBytes]

theorem statusBytes_eq_fieldsBytes (s : State) : 0x00 :: statusBytes s = fieldsBytes (statusFields s) := by
  simp only [statusBytes, statusFields, fieldsBytes_append, rejectBytes_eq_fieldsBytes,
    usageBytes_eq_fieldsBytes, slotBytes_eq_fieldsBytes, setBytes]
  simp [fieldsBytes, toBytes]

theorem carriesSet_of_fieldAt {fields : List (Nat × Nat)} {o n : Nat} (l : List Bool) {members : List Prop}
    (h : fieldAt fields o = some (n, bitField l)) (e : members = l.map fun x => x = true) :
    CarriesSet (fieldsBytes fields) o n members :=
  Carries.set l (carries_of_fieldAt h) e

theorem Bank.items_eq_map {α : Type} {n : Nat} (b : Bank α n) : b.items = (List.finRange n).map b.get := by
  refine List.ext_getElem (by simp [b.size]) fun i h _ => ?_
  simp [Bank.get]

theorem Breaker.coded_code (b : Breaker) : b.coded b.code := by
  unfold Breaker.coded Breaker.code
  cases b.cfg.enabled <;> cases b.st <;> rfl

theorem statusFields_layout (s : State) : StatusLayout s (fieldsBytes (statusFields s)) where
  length := by
    simp [length_fieldsBytes, statusFields, rejectFields, usageFields, slotFields, flagField]
  status := carries_of_fieldAt rfl
  state := ⟨s.seq.st.code, carries_of_fieldAt rfl, by cases s.seq.st <;> rfl⟩
  commit := carriesFlag_of_fieldAt s.seq.commit rfl Iff.rfl
  shotNo := carries_of_fieldAt rfl
  cancel := ⟨s.seq.cancel.code.1, s.seq.cancel.code.2, carries_of_fieldAt rfl, carries_of_fieldAt rfl, by
    cases s.seq.cancel with
    | source r => cases r <;> exact ⟨rfl, rfl⟩
    | never => exact ⟨rfl, rfl⟩
    | disarm => exact ⟨rfl, rfl⟩⟩
  plain := carriesSet_of_fieldAt (plainSources.map (rejectSet s).contains) rfl (by
    simp [plainSources])
  hot := carriesSet_of_fieldAt ((List.finRange 6).map fun o => (rejectSet s).contains (.outletHot o)) rfl
    (by simp)
  uncalibrated := carriesSet_of_fieldAt
    ((List.finRange 10).map fun o => (rejectSet s).contains (.uncalibrated o)) rfl (by simp)
  rotation := carriesFlag_of_fieldAt s.syn.map.reversed rfl Iff.rfl
  arrangement := ⟨s.syn.map.arrangement.code, carries_of_fieldAt rfl, by
    cases s.syn.map.arrangement <;> rfl⟩
  settle := carriesFlag_of_fieldAt s.syn.settle.isSome rfl Option.isSome_iff_ne_none.symm
  sync := ⟨s.tb.sync.code, carries_of_fieldAt rfl, by cases s.tb.sync <;> rfl⟩
  glitch := carriesFlag_of_fieldAt s.tb.glitch rfl Iff.rfl
  breakers k := ⟨(s.brk.get k).code, by fin_cases k <;> exact carries_of_fieldAt rfl, Breaker.coded_code _⟩
  usages o := by fin_cases o <;> exact carries_of_fieldAt rfl
  free := carries_of_fieldAt rfl
  reserved := carriesFlag_of_fieldAt (s.rep.cur == .reserved) rfl (by simp)
  filling := carriesFlag_of_fieldAt (s.rep.cur == .filling) rfl (by simp)
  unread := carries_of_fieldAt rfl
  read := carries_of_fieldAt rfl
  notices := carriesSet_of_fieldAt s.link.noticeSet.items rfl (by simp [Bank.items_eq_map])
  mask := carriesSet_of_fieldAt s.link.mask.items rfl (by simp [Bank.items_eq_map])

/-- The held reports are the unread and the read ones (R156). -/
theorem unread_add_read (l : List HeldReport) :
    (l.filter fun h => h.unread).length + (l.filter fun h => !h.unread).length = l.length := by
  rw [← List.countP_eq_length_filter, ← List.countP_eq_length_filter,
    List.length_eq_countP_add_countP fun h : HeldReport => h.unread]
  simp

/-- Settles O11: the fields of the status, and the slots by the current one. -/
theorem gstaReportsAndClearsTheGlitch : Obligations.GstaReportsAndClearsTheGlitch := by
  intro t tag s h
  refine ⟨?_, statusBytes_eq_fieldsBytes s ▸ statusFields_layout s, fun room => ?_⟩
  · exact h.answered t tag 0x02 [] { s.advance t with tb := { s.tb with glitch := false } } _ (by decide) rfl
      h.noRequest rfl
  · have sum := unread_add_read s.rep.held
    unfold ReportStore.freeSlots
    cases cur : s.rep.cur <;> simp [cur, CurSlot.taken] at room ⊢ <;> omega

end Sys2Proof.Machine
end

section
/-! PROOFS. ERST, the resets, the check of the calibration memory, and the calibration write (R38, R172, R186,
R187, R189). -/

namespace Sys2Proof.Machine

/-! ## ERST (R186) -/

/-- The reply of ERST joins, and the queue is held from then on. -/
theorem beginReset_link (f : Frame) (s : State) : beginReset f s = { s with
    link := { s.link.join (replyFrame .resetReply f [0x00]) with resetting := true, queue := [] } } := by
  unfold beginReset answer Link.dequeue
  rw [Link.join_requeued]
  rfl

theorem respond_erst (tag : Byte) (s : State) :
    respond { kind := 0x03, tag, body := [] } s = (s, .reset) := rfl

theorem execute_erst (tag : Byte) (s : State) :
    execute { kind := 0x03, tag, body := [] } s = beginReset { kind := 0x03, tag, body := [] } s := rfl

theorem submit_awaited (f : Frame) {s : State} (awaited : s.link.resetting = true) : submit f s = s := by
  unfold submit
  rw [awaited]
  rfl

/-- Settles O14: the reply of ERST empties the queue, and nothing is taken behind it. -/
theorem erstAnswersAndHoldsTheLink : Obligations.ErstAnswersAndHoldsTheLink := by
  refine ⟨fun t tag s h => ?_, fun c t f s asks up awaited => ?_, fun s g rest tag head may => ?_⟩
  · refine (exec_submit (t := t) (f := { kind := 0x03, tag, body := [] }) rfl h.up).trans ?_
    rw [h.submit, execute_erst, beginReset_link, serve_empty 1 rfl]
    dsimp only [State.queued]
    rw [Link.join_requeued]
    rfl
  · rw [exec_submit asks up, submit_awaited f (s := s.advance t) awaited]
  · rw [serve_taken 1 head may, execute_erst, beginReset_link, serve_empty 1 rfl]
    exact ⟨rfl, rfl⟩

/-! ## The engine reset (R38, R186) -/

theorem engineReset_atHead {s : State} (head : s.link.resetAtHead = true) :
    engineReset s = s.engineReset := if_pos head

/-- The end of the reply of ERST is the engine reset (log 21). -/
theorem frameSent_atHead {s : State} (head : s.link.resetAtHead = true) (first : Bool) :
    frameSent first s = s.engineReset := by
  unfold Link.resetAtHead at head
  unfold frameSent
  cases order : s.link.order with
  | nil => simp [order] at head
  | cons f rest => exact if_pos (by simpa [order] using head)

theorem restart_input (term : Terminal) (reading : Nat) : Input.restart term reading =
    { Input.initial with term, reading, raw := term.closed, qual := term.closed } := rfl

/-- STARTED is pending after a reset. -/
theorem started_get (i : Fin 12) : ((Bank.fill 12 false).set Notice.started.bit true).get i = decide (i = 0) := by
  revert i
  decide

theorem restart_sets (strap : Strap) (mask : Bank Bool 12) :
    (Link.restart strap mask).noticeSet = (Bank.fill 12 false).set Notice.started.bit true ∧
      (Link.restart strap mask).mask = mask ∧ (Link.restart strap mask).strap = strap ∧
      (Link.restart strap mask).rx = .initial := by
  unfold Link.restart
  dsimp only
  split
  · exact ⟨Link.dueNote_noticeSet _, Link.dueNote_mask _, rfl, Link.dueNote_rx _⟩
  · exact ⟨rfl, rfl, rfl, rfl⟩

/-- The NOTE of STARTED begins its transmission at once, when it is enabled (log 20). -/
theorem restart_order (strap : Strap) (mask : Bank Bool 12) : (Link.restart strap mask).order =
    if mask.get 0 then
      [{ what := .note, formed := true, frame := { kind := 0x40, tag := 0, body := [0, 1] } }] else [] := by
  unfold Link.restart
  rw [show Notice.started.bit = (0 : Fin 12) from rfl]
  dsimp only
  split
  case isTrue enabled =>
    rw [Link.dueNote_joins rfl]
    change beginHead _ [waitingNote] = _
    rw [beginHead_waiting, if_pos (reportable_of_pending (i := 0) (Bank.get_set_self _ _ _) enabled)]
    have bytes : setBytes 2 ((Bank.fill 12 false).set (0 : Fin 12) true) = [0, 1] := by decide
    exact congrArg (fun b => [TxFrame.mk .note true { kind := 0x40, tag := 0, body := b }]) bytes
  case isFalse => rfl

/-- Settles O15, block by block. -/
theorem engineResetRestoresTheBlocks : Obligations.EngineResetRestoresTheBlocks := by
  intro t s up head
  have sent (b : Bool) : exec (.frameSent t b) s = .next (s.advance t).engineReset := by
    rw [exec_frameSent t b up, frameSent_atHead (s := s.advance t) head]
  have reset : exec (.engineReset t) s = .next (s.advance t).engineReset :=
    congrArg Host.Outcome.next ((whenUp_up up).trans (engineReset_atHead head))
  obtain ⟨notices, mask, strap, rx⟩ := restart_sets s.link.strap s.link.mask
  refine ⟨(s.advance t).engineReset, reset, sent, rfl, rfl, fun i => Bank.get_fill .., rfl, rfl, rfl, rfl, rfl,
    rfl, rfl, fun i => Bank.get_fill .., fun i => Bank.get_fill .., rfl, rfl,
    fun o => ⟨Bank.get_fill .., Bank.get_fill ..⟩, fun c => ?chans, fun k => ?inputs, fun i => ?triggers,
    fun m => ?timers, fun b => ?breakers, fun o => Bank.get_fill .., rfl, rfl, rfl, rfl, rfl, strap, mask,
    Link.restart_queue .., Link.restart_resetting .., congrArg Assembler.phase rx, fun i => ?notices,
    restart_order ..⟩
  case chans =>
    rw [show (s.advance t).engineReset.syn.chans.get c = Chan.initial from Bank.get_fill ..]
    exact ⟨rfl, rfl, rfl⟩
  case inputs =>
    rw [show (s.advance t).engineReset.inp.get k = .restart (s.inp.get k).term (s.inp.get k).reading from
      Bank.get_map ..]
    exact ⟨rfl, rfl, rfl, rfl, rfl, rfl, rfl, rfl⟩
  case triggers =>
    rw [show (s.advance t).engineReset.trg.get i = { entry := none, count := 0 } from Bank.get_fill ..]
    exact ⟨rfl, rfl⟩
  case timers =>
    rw [show (s.advance t).engineReset.tmr.get m = .initial from Bank.get_fill ..]
    exact ⟨rfl, rfl⟩
  case breakers =>
    rw [show (s.advance t).engineReset.brk.get b = .initial from Bank.get_fill ..]
    exact ⟨rfl, rfl, rfl⟩
  case notices =>
    rw [← started_get i]
    exact congrArg (fun n => Bank.get n i) notices

/-! ## Power-on and RSTN (R38, R172) -/

/-- Settles O16, block by block. -/
theorem powerOnStartsTheEngine : Obligations.PowerOnStartsTheEngine := by
  intro pins s
  obtain ⟨notices, mask, strap, rx⟩ := restart_sets pins.strap (.fill 12 true)
  have noticed (i : Fin 12) : (s.start pins).link.noticeSet.get i = decide (i = 0) := by
    rw [← started_get i]
    exact congrArg (fun n => Bank.get n i) notices
  have masked (i : Fin 12) : (s.start pins).link.mask.get i = true := by
    rw [show (s.start pins).link.mask = .fill 12 true from mask]
    exact Bank.get_fill ..
  refine ⟨s.start pins, rfl, fun held => ?release, rfl, rfl, rfl, ⟨rfl, rfl, rfl⟩, rfl, rfl,
    fun o => ⟨Bank.get_fill .., Bank.get_fill ..⟩, fun k => ?inputs, fun i => ?triggers, fun m => ?timers,
    fun b => ?breakers, fun o => Bank.get_fill .., rfl, fun o => ?heat, rfl, rfl, rfl, rfl, rfl, strap, masked,
    noticed, Link.restart_queue .., congrArg Assembler.phase rx, ?atn, ?order⟩
  case release =>
    change (Host.Outcome.next _ : Answer) = _
    rw [held]
  case inputs =>
    rw [show (s.start pins).inp.get k = .restart (pins.terms.get k) 0 from Bank.get_map ..]
    exact ⟨rfl, rfl, rfl, rfl, rfl, rfl⟩
  case triggers => exact congrArg TrigSlot.entry (Bank.get_fill ..)
  case timers => rw [show (s.start pins).tmr.get m = .initial from Bank.get_fill ..]; rfl
  case breakers => rw [show (s.start pins).brk.get b = .initial from Bank.get_fill ..]; rfl
  case heat =>
    rw [show (s.start pins).sup.thermal.get o = .initial (capacityOf (s.start pins) o) from Bank.get_ofFn ..]
    exact ⟨rfl, rfl, rfl, rfl⟩
  case atn => exact reportable_of_pending (i := 0) (noticed 0) (masked 0)
  case order =>
    refine (restart_order pins.strap (.fill 12 true)).trans (if_pos ?_)
    exact Bank.get_fill ..

/-- What an interrupted write leaves in the memory (R189, log 7). -/
theorem interruptWrite_cal (s : State) : (s.cal.write = none → s.interruptWrite.cal = s.cal) ∧
    ∀ w, s.cal.write = some w → ∃ crc : BitVec 16, s.interruptWrite.cal = { s.cal with
      stored := s.cal.stored.set w.outlet { fields := w.fields, crc }, write := none } := by
  refine ⟨fun none => by rw [interruptWrite_of_none s none],
    fun w writing => ⟨Config.interruptedCrc s.freeCount, ?_⟩⟩
  unfold State.interruptWrite
  rw [writing]
  dsimp only
  unfold Calibration.interrupt
  rw [writing]

/-- Settles O17: both interrupt the write, and what they reset is named. -/
theorem rstnAndPowerLossStopTheEngine : Obligations.RstnAndPowerLossStopTheEngine := by
  intro t s up
  refine ⟨⟨(s.advance t).hold, congrArg Host.Outcome.next (whenUp_up up), rfl, rfl, rfl,
    Link.restart_queue .., rfl, rfl, rfl, fun o => Bank.get_fill .., fun o => Bank.get_fill ..,
    interruptWrite_cal (s.advance t)⟩, ⟨(s.advance t).lose, ?_, rfl, rfl, rfl,
    interruptWrite_cal (s.advance t)⟩⟩
  change (Host.Outcome.next _ : Answer) = _
  rw [up]

end Sys2Proof.Machine
end

section
/-! PROOFS. The calibration memory: the check of its records at power-on, and the write of WCAL (R184, R187,
R189). -/

namespace Sys2Proof.Machine

/-! ## The check at power-on (R184, R187) -/

/-- The ranges of a calibration record as propositions (R187). -/
theorem calInRange_iff (o : Outlet) (r : CalRecord) : calInRange o r = true ↔
    32768 ≤ r.gain ∧ r.gain ≤ 131071 ∧ -2048 ≤ r.offset ∧ r.offset ≤ 2047 ∧
      (o.val < 4 → r.rating = 0 ∧ r.capacity = 0) ∧
      (4 ≤ o.val → 1 ≤ r.rating ∧ r.rating ≤ 25000 ∧ 1 ≤ r.capacity ∧ r.capacity ≤ 1000000000000) := by
  unfold calInRange
  by_cases voltage : o.val < 4
  · simp [voltage, Nat.not_le.2 voltage, and_assoc]
  · simp [voltage, Nat.not_lt.1 voltage, and_assoc]

theorem passes_iff (o : Outlet) (r : Stored) : r.passes o = true ↔
    r.crc = crc (r.fields.bytes o) ∧ calInRange o r.fields = true := by
  simp [Stored.passes]

theorem check_good {c : Calibration} {o : Outlet} (passes : (c.stored.get o).passes o = true) :
    c.check.working.get o = (c.stored.get o).fields ∧ c.check.status.get o = .good := by
  simp [Calibration.check, passes]

theorem check_defaulted {c : Calibration} {o : Outlet} (fails : ¬ (c.stored.get o).passes o = true) :
    c.check.status.get o = .defaulted ∧ c.check.working.get o = .default o := by
  simp [Calibration.check, fails]

/-- Settles O18, by the record's check. -/
theorem calibrationRecordsAreChecked : Obligations.CalibrationRecordsAreChecked := by
  intro pins s o idle
  have checked : (s.start pins).cal = s.cal.check := by
    change s.interruptWrite.cal.check = _
    rw [interruptWrite_of_none s idle]
  have passes := passes_iff o (s.cal.stored.get o)
  rw [calInRange_iff] at passes
  refine ⟨s.start pins, rfl, ?_, ?_, fun good => ?_, fun bad => ?_, fun match_ => ?_, fun mismatch => ?_⟩
  · rw [checked]; rfl
  · rw [checked]; rfl
  · rw [checked]
    exact check_good (passes.2 good)
  · rw [checked]
    exact check_defaulted fun h => bad (passes.1 h)
  · rw [checked]
    exact if_pos match_
  · rw [checked]
    exact if_neg mismatch

/-! ## WCAL (R189) -/

theorem strapService_iff (strap : Strap) : strapService strap = true ↔ strap = .level1 := by
  cases strap <;> simp [strapService]

theorem checkWcal_code {body : List Byte} {s : State} (code : s.link.strap ≠ .level1) :
    checkWcal body s = .error .serviceOnly := by
  unfold checkWcal
  rw [if_pos]
  rwa [Bool.not_eq_true', ← Bool.not_eq_true, strapService_iff]

theorem checkWcal_state {body : List Byte} {s : State} (service : s.link.strap = .level1)
    (busy : s.seq.st.editable = false) : checkWcal body s = .error .wrongState := by
  unfold checkWcal
  simp [service, busy, strapService]

theorem checkWcal_range {body : List Byte} {s : State} (service : s.link.strap = .level1)
    (editable : s.seq.st.editable = true) (bad : readWcal body = none) :
    checkWcal body s = .error .paramRange := by
  unfold checkWcal
  simp [service, editable, strapService, bad]

theorem checkWcal_ok {body : List Byte} {s : State} {o : Outlet} {r : CalRecord}
    (service : s.link.strap = .level1) (editable : s.seq.st.editable = true)
    (good : readWcal body = some (o, r)) : checkWcal body s = .ok { outlet := o, fields := r } := by
  unfold checkWcal
  simp [service, editable, strapService, good]

theorem readWcal_inRange {body : List Byte} {o : Outlet} {r : CalRecord} (read : readWcal body = some (o, r)) :
    calInRange o r = true := by
  simp only [readWcal, Option.bind_eq_bind, Option.bind_eq_some_iff] at read
  obtain ⟨o', -, read⟩ := read
  split at read
  case isTrue inRange => cases read; exact inRange
  case isFalse => cases read

/-- WCAL refused (R189). -/
theorem LinkFree.exec_wcal_refused {s : State} (h : LinkFree s) (t : Time) (tag : Byte) {body : List Byte}
    (length : body.length = 15) {why : Status}
    (refuses : checkWcal body ((s.advance t).queued { kind := 0x07, tag, body }) = .error why) :
    exec (.wcal t tag body) s = .next ((s.advance t).replied { kind := 0x07, tag, body } [why.code]) := by
  refine h.answered t tag 0x07 body (s.advance t) [why.code] (by decide) (by simp [lengthOk, length])
    h.noRequest ?_
  change writeCalibration body _ = _
  rw [writeCalibration, refuses]
  rfl

/-- WCAL accepted: the write holds the queue (R179, R189). -/
theorem LinkFree.exec_wcal_begins {s : State} (h : LinkFree s) (t : Time) (tag : Byte) {body : List Byte}
    (length : body.length = 15) {w : CalWrite}
    (begins : checkWcal body ((s.advance t).queued { kind := 0x07, tag, body }) = .ok w) :
    exec (.wcal t tag body) s = .next { s.advance t with
      link := { s.link with queue := [{ kind := 0x07, tag, body }] }
      cal := { s.cal with write := some w } } := by
  let f : Frame := { kind := 0x07, tag, body }
  let u : State := { (s.advance t).queued f with cal := { s.cal with write := some w } }
  have responds : respond f ((s.advance t).queued f) = (u, .writing w) := by
    rw [respond_message (f := f) (show messageCodes.contains 0x07 = true by decide)
      (by simp [lengthOk, f, length])]
    change writeCalibration body _ = _
    rw [writeCalibration, begins]
    rfl
  have executed : execute f ((s.advance t).queued f) = u := by
    unfold execute
    rw [responds]
  refine (exec_submit (t := t) (f := f) rfl h.up).trans ?_
  rw [h.submit, executed, serve_blocked 1 rfl]
  rfl

/-! ## The end of the write (R147, R189) -/

/-- A link whose queue holds one request alone. -/
def Link.HoldsOne (g : Frame) (l : Link) : Prop := l.queue = [g]

theorem holdsOne_noted (g : Frame) : LinkNoted fun l _ => l.HoldsOne g where
  sets _ _ _ _ h := h
  due l _ h := (Link.dueNote_queue l).trans h

/-- Behind the execution of the only request held, none waits, or a write holds the queue. -/
theorem execute_only (g : Frame) {s : State} (only : s.link.queue = [g]) : (execute g s).link.queue = [] ∨
    ¬ ((execute g s).cal.write = none ∧ (execute g s).link.resetting = false ∧
      (execute g s).link.replies < 2) := by
  have left := (holdsOne_noted g).respond g (s := s) only
  unfold execute
  split
  case h_1 u body answered =>
    rw [answered] at left
    obtain holds | ⟨w, writes, -⟩ := left
    · left
      change u.link.queue.tail = []
      rw [show u.link.queue = [g] from holds]
      rfl
    · cases writes
  case h_2 => exact .inl rfl
  case h_3 u w writes =>
    rw [respond_writing writes]
    exact .inr fun room => by simp at room

theorem writeComplete_held {s : State} {w : CalWrite} {f : Frame} {behind : List Frame}
    (writing : s.cal.write = some w) (head : s.link.queue = f :: behind) :
    writeComplete s = serve 2 (answer .reply f [0x00] { s with
      cal := s.cal.finish w, sup := { s.sup with thermal := limitHeat w s.sup.thermal } }) := by
  unfold writeComplete
  rw [writing, head]
  rfl

theorem limitHeat_eq (w : CalWrite) (th : Bank Thermal 6) : limitHeat w th = .ofFn fun o =>
    if o.val + 4 = w.outlet.val then { th.get o with heat := min (th.get o).heat w.fields.capacity }
    else th.get o := by
  ext o
  have same : outletOf o = w.outlet ↔ o.val + 4 = w.outlet.val := Fin.ext_iff
  simp only [limitHeat, Bank.get_mapIdx, Bank.get_ofFn, same]

/-- The state in which the write has ended and its request has left the queue (R147, R189). -/
def State.wrote (s : State) (w : CalWrite) (behind : List Frame) : State :=
  { s with
    cal := s.cal.finish w
    sup := { s.sup with thermal := .ofFn fun o =>
      if o.val + 4 = w.outlet.val then
        { s.sup.thermal.get o with heat := min (s.sup.thermal.get o).heat w.fields.capacity }
      else s.sup.thermal.get o }
    link := { s.link with queue := behind } }

theorem exec_wcalWriteComplete (t : Time) {s : State} {w : CalWrite} {f : Frame} {behind : List Frame}
    (up : s.power = .up) (writing : s.cal.write = some w) (head : s.link.queue = f :: behind) :
    exec (.wcalWriteComplete t) s = .next (serve 2 (((s.advance t).wrote w behind).replied f [0x00])) := by
  refine congrArg Host.Outcome.next ((whenUp_up up).trans ?_)
  rw [writeComplete_held (s := s.advance t) writing head, limitHeat_eq]
  unfold answer Link.dequeue
  dsimp only [State.advance_link]
  rw [head]
  rfl

/-- Settles O19: the checks in their order, and then the end of the write by what waits behind it. -/
theorem wcalWrites : Obligations.WcalWrites := by
  refine ⟨fun t tag body s h length => ⟨fun code => ?_, fun service busy => ?_, fun service editable bad => ?_,
    fun o r service editable good => ⟨readWcal_inRange good, ?_⟩⟩, fun t s w f behind up writing head => ?_⟩
  · exact h.exec_wcal_refused t tag length (checkWcal_code code)
  · exact h.exec_wcal_refused t tag length (checkWcal_state service busy)
  · exact h.exec_wcal_refused t tag length (checkWcal_range service editable bad)
  · exact h.exec_wcal_begins t tag length (checkWcal_ok service editable good)
  · let u := ((s.advance t).wrote w behind).replied f [0x00]
    rw [exec_wcalWriteComplete t up writing head]
    refine ⟨fun alone => ?_, fun g one awake => ⟨fun room => ?_, fun full => ?_⟩⟩
    · exact congrArg Host.Outcome.next (serve_empty 2 (s := u) alone)
    · exact congrArg Host.Outcome.next ((serve_taken 1 (s := u) one
        ((mayExecute_iff u).2 ⟨rfl, awake, room⟩)).trans (serve_stops 1 (execute_only g one)))
    · exact congrArg Host.Outcome.next (serve_blocked 2 (s := u) (mayExecute_eq_false fun may =>
        absurd may.2.2 (Nat.not_lt.2 full)))

end Sys2Proof.Machine
end

section
/-! PROOFS. The sections of a report in the layouts of R190 and R191, and the reading and the release of held
reports (R169 to R171). -/

namespace Sys2Proof.Machine

/-! ## Optional values and lap places as fields -/

/-- An optional 4-byte value as a field: 0 when absent. -/
def optField (v : Option Nat) : Nat × Nat := (4, v.getD 0)

theorem fieldsBytes_nil : fieldsBytes [] = [] := rfl

theorem fieldsBytes_cons (f : Nat × Nat) (rest : List (Nat × Nat)) :
    fieldsBytes (f :: rest) = toBytes f.1 f.2 ++ fieldsBytes rest := rfl

theorem carriesOption_of_fieldAt {fields : List (Nat × Nat)} {o w : Nat} (v : Option Nat)
    (present : fieldAt fields o = some (flagField v.isSome)) (value : fieldAt fields w = some (optField v)) :
    CarriesOption (fieldsBytes fields) o w v := by
  have carried := carries_of_fieldAt value
  refine ⟨carriesFlag_of_fieldAt v.isSome present Option.isSome_iff_ne_none.symm, fun x some => ?_,
    fun none => ?_⟩
  · subst some
    exact carried
  · subst none
    exact carried

/-- A lap place as fields: 0 when no lap stands there. -/
def lapFields (l : Option Lap) : List (Nat × Nat) :=
  [(4, l.elim 0 fun l => l.value), flagField (l.elim false fun l => l.early)]

theorem lapBytes_eq_fieldsBytes (l : Option Lap) : lapBytes l = fieldsBytes (lapFields l) := by
  cases l with
  | none => rfl
  | some l => simp [lapBytes, lapFields, fieldsBytes]

/-! ## The HEADER entry (R190) -/

/-- The PPS reference as fields; what is absent is 0. -/
def ppsFields (p : Option (Nat × Sync)) : List (Nat × Nat) :=
  [flagField p.isSome, optField (p.map (·.1)), (1, (p.map (·.2.code)).getD 0)]

/-- The peak usages of the six current outlets as fields. -/
def peakFields (p : Bank Nat 6) : List (Nat × Nat) :=
  [(2, p.get 0), (2, p.get 1), (2, p.get 2), (2, p.get 3), (2, p.get 4), (2, p.get 5)]

/-- The HEADER entry as fields. -/
def headerFields (r : Report) : List (Nat × Nat) :=
  [(2, r.shotNo), (2, r.tag), (6, r.t0.toNat), (1, r.source.code.1), (1, r.source.code.2.1),
   (1, r.source.code.2.2)] ++ ppsFields r.ppsRef ++
  [flagField r.map.reversed, (1, r.map.arrangement.code), (1, r.endCode.1), (1, r.endCode.2),
   (2, bitField (hardCauses.map r.further.contains)), (4, r.stopBegin), (4, r.finalize), (1, r.flags.bits),
   (2, bitField r.clamped.items), (2, bitField r.chatter.items)] ++ peakFields r.peaks ++
  [(1, r.trail.length), (1, r.log.length), (1, r.marks.length), (1, (r.ops.get 0).length),
   (1, (r.ops.get 1).length), (1, r.grades.length), (2, r.trailOver), (2, r.logOver), (2, r.marksOver),
   (2, r.opsOver.get 0), (2, r.opsOver.get 1)]

theorem peakBytes_eq_fieldsBytes (p : Bank Nat 6) :
    p.items.flatMap (toBytes 2) = fieldsBytes (peakFields p) := by
  simp [Bank.items_eq_map, peakFields, fieldsBytes, List.finRange_succ]

theorem headerBytes_eq_fieldsBytes (r : Report) : headerBytes r = fieldsBytes (headerFields r) := by
  unfold headerBytes headerFields ppsFields
  simp only [peakBytes_eq_fieldsBytes, setBytes, fieldsBytes_append, fieldsBytes_cons, fieldsBytes_nil,
    toBytes_flagField]
  simp only [optField, optBytes, List.append_assoc, List.append_nil]

theorem headerFields_layout (r : Report) : HeaderLayout r (fieldsBytes (headerFields r)) where
  length := by simp [length_fieldsBytes, headerFields, ppsFields, peakFields, flagField, optField]
  shotNo := carries_of_fieldAt rfl
  tag := carries_of_fieldAt rfl
  t0 := carries_of_fieldAt rfl
  source := ⟨r.source.code.1, r.source.code.2.1, r.source.code.2.2, carries_of_fieldAt rfl,
    carries_of_fieldAt rfl, carries_of_fieldAt rfl, by
      cases r.source with
      | input k e => cases e <;> exact ⟨rfl, rfl, rfl⟩
      | _ => exact ⟨rfl, rfl, rfl⟩⟩
  ppsPresent := carriesFlag_of_fieldAt r.ppsRef.isSome rfl Option.isSome_iff_ne_none.symm
  pps offset sync some := by
    refine ⟨carries_of_fieldAt ?_, sync.code, carries_of_fieldAt ?_, by cases sync <;> rfl⟩ <;>
      (rw [headerFields, some]; rfl)
  noPps none := by
    refine ⟨carries_of_fieldAt ?_, carries_of_fieldAt ?_⟩ <;> (rw [headerFields, none]; rfl)
  rotation := carriesFlag_of_fieldAt r.map.reversed rfl Iff.rfl
  arrangement := ⟨r.map.arrangement.code, carries_of_fieldAt rfl, by cases r.map.arrangement <;> rfl⟩
  endReason e he := by
    have code : r.endCode = e.code := by rw [Report.endCode, he]
    exact ⟨e.code.1, e.code.2, carries_of_fieldAt (by rw [headerFields, code]; rfl),
      carries_of_fieldAt (by rw [headerFields, code]; rfl), e.coded_code⟩
  further := carriesSet_of_fieldAt (hardCauses.map r.further.contains) rfl (by simp [hardCauses])
  stopBegin := carries_of_fieldAt rfl
  finalize := carries_of_fieldAt rfl
  flags := carriesSet_of_fieldAt [r.flags.angleMissed, r.flags.ppsMissed, r.flags.chainLimit,
    r.flags.stopForced, r.flags.rampLimit, r.flags.sagSeen] rfl rfl
  clamped := carriesSet_of_fieldAt r.clamped.items rfl (by simp [Bank.items_eq_map])
  chatter := carriesSet_of_fieldAt r.chatter.items rfl (by simp [Bank.items_eq_map])
  peaks o := by fin_cases o <;> exact carries_of_fieldAt rfl
  trail := ⟨carries_of_fieldAt rfl, carries_of_fieldAt rfl⟩
  triggers := ⟨carries_of_fieldAt rfl, carries_of_fieldAt rfl⟩
  marks := ⟨carries_of_fieldAt rfl, carries_of_fieldAt rfl⟩
  operations k := by fin_cases k <;> exact ⟨carries_of_fieldAt rfl, carries_of_fieldAt rfl⟩
  grades := carries_of_fieldAt rfl

/-! ## The entries of the lists (R191) -/

/-- A TRAIL entry as fields. -/
def trailFields (e : TrailEntry) : List (Nat × Nat) :=
  [(1, e.state.val), (2, e.tag), (4, e.time), (1, e.cause.code.1), (1, e.cause.code.2),
   (1, bitField [e.angleMissed, e.ppsMissed, e.superseded])]

theorem trailBytes_eq_fieldsBytes (e : TrailEntry) : trailBytes e = fieldsBytes (trailFields e) := by
  simp [trailBytes, trailFields, fieldsBytes]

theorem trailBytes_layout (e : TrailEntry) : TrailLayout e (trailBytes e) := by
  rw [trailBytes_eq_fieldsBytes]
  exact {
    length := by simp [length_fieldsBytes, trailFields]
    state := carries_of_fieldAt rfl
    tag := carries_of_fieldAt rfl
    time := carries_of_fieldAt rfl
    cause := ⟨e.cause.code.1, e.cause.code.2, carries_of_fieldAt rfl, carries_of_fieldAt rfl, by
      cases e.cause <;> exact ⟨rfl, rfl⟩⟩
    flags := carriesSet_of_fieldAt [e.angleMissed, e.ppsMissed, e.superseded] rfl rfl }

/-- A TIMERS entry as fields. -/
def timerFields (n : Nat) (r : TimerResult) : List (Nat × Nat) :=
  [(1, n + 1), (1, r.mode.code.1), (1, r.mode.code.2), flagField r.start.isSome, optField r.start,
   (1, r.outcome.code), (1, r.laps.length)] ++
  lapFields r.laps[0]? ++ lapFields r.laps[1]? ++ lapFields r.laps[2]? ++ lapFields r.laps[3]? ++
  [(2, r.count), (2, r.extra), (2, r.late)]

theorem timerBytes_eq_fieldsBytes (n : Nat) (r : TimerResult) :
    timerBytes n r = fieldsBytes (timerFields n r) := by
  simp only [timerBytes, timerFields, fieldsBytes_append, lapBytes_eq_fieldsBytes]
  simp [fieldsBytes, optField, optBytes]

theorem timerBytes_layout (n : Nat) (e : TimerResult) : TimerLayout n e (timerBytes n e) := by
  rw [timerBytes_eq_fieldsBytes]
  exact {
    length := by simp [length_fieldsBytes, timerFields, lapFields, flagField, optField]
    timer := carries_of_fieldAt rfl
    mode := ⟨e.mode.code.1, e.mode.code.2, carries_of_fieldAt rfl, carries_of_fieldAt rfl, by
      cases e.mode <;> exact ⟨rfl, rfl⟩⟩
    start := carriesOption_of_fieldAt e.start rfl rfl
    outcome := ⟨e.outcome.code, carries_of_fieldAt rfl, by cases e.outcome <;> rfl⟩
    laps := carries_of_fieldAt rfl
    lap := fun i hi l hl => by
      interval_cases i <;> exact ⟨carries_of_fieldAt (by rw [timerFields, hl]; rfl),
        carriesFlag_of_fieldAt l.early (by rw [timerFields, hl]; rfl) Iff.rfl⟩
    noLap := fun i hi hl => by
      interval_cases i <;> exact ⟨carries_of_fieldAt (by rw [timerFields, hl]; rfl),
        carries_of_fieldAt (by rw [timerFields, hl]; rfl)⟩
    count := carries_of_fieldAt rfl
    extra := carries_of_fieldAt rfl
    late := carries_of_fieldAt rfl }

/-- A GRADES entry as fields. -/
def gradeFields (g : GradeEntry) : List (Nat × Nat) :=
  [(1, g.grade.val + 1), (1, g.verdict.code),
   (1, bitField [g.m.isSome, g.expected.isSome, g.measured.isSome, g.band.isSome]), optField g.m,
   optField g.expected, optField (g.measured.map (·.1)), flagField ((g.measured.map (·.2)).getD false),
   optField g.band]

theorem gradeBytes_eq_fieldsBytes (g : GradeEntry) : gradeBytes g = fieldsBytes (gradeFields g) := by
  simp [gradeBytes, gradeFields, fieldsBytes, optField, optBytes]

theorem gradeBytes_layout (e : GradeEntry) : GradeLayout e (gradeBytes e) := by
  rw [gradeBytes_eq_fieldsBytes]
  exact {
    length := by simp [length_fieldsBytes, gradeFields, flagField, optField]
    grade := carries_of_fieldAt rfl
    verdict := ⟨e.verdict.code, carries_of_fieldAt rfl, by cases e.verdict <;> rfl⟩
    present := carriesSet_of_fieldAt [e.m.isSome, e.expected.isSome, e.measured.isSome, e.band.isSome] rfl
      (by simp [Option.isSome_iff_ne_none])
    m := carries_of_fieldAt rfl
    expected := carries_of_fieldAt rfl
    measured := fun v early some => ⟨carries_of_fieldAt (by rw [gradeFields, some]; rfl),
      carriesFlag_of_fieldAt early (by rw [gradeFields, some]; rfl) Iff.rfl⟩
    notMeasured := fun none => ⟨carries_of_fieldAt (by rw [gradeFields, none]; rfl),
      carries_of_fieldAt (by rw [gradeFields, none]; rfl)⟩
    band := carries_of_fieldAt rfl }

/-- A BREAKERS entry as fields. -/
def operationFields (b : BreakerId) (e : OpEntry) : List (Nat × Nat) :=
  [(1, b.val + 1), (1, e.kind.code), (4, e.command), (4, e.completion), (1, e.cause.code.1),
   (1, e.cause.code.2), (1, e.refusal.code.1), (1, e.refusal.code.2), flagField e.replaced.isSome,
   optField e.replaced]

theorem opBytes_eq_fieldsBytes (b : BreakerId) (e : OpEntry) :
    opBytes b e = fieldsBytes (operationFields b e) := by
  simp [opBytes, operationFields, fieldsBytes, optField, optBytes]

theorem opBytes_layout (b : BreakerId) (e : OpEntry) : OperationLayout b e (opBytes b e) := by
  rw [opBytes_eq_fieldsBytes]
  exact {
    length := by simp [length_fieldsBytes, operationFields, flagField, optField]
    breaker := carries_of_fieldAt rfl
    kind := ⟨e.kind.code, carries_of_fieldAt rfl, by cases e.kind <;> rfl⟩
    command := carries_of_fieldAt rfl
    completion := carries_of_fieldAt rfl
    cause := ⟨e.cause.code.1, e.cause.code.2, carries_of_fieldAt rfl, carries_of_fieldAt rfl, by
      cases e.cause <;> exact ⟨rfl, rfl⟩⟩
    refusal := ⟨e.refusal.code.1, e.refusal.code.2, carries_of_fieldAt rfl, carries_of_fieldAt rfl, by
      cases e.refusal with
      | state st => cases st <;> exact ⟨rfl, rfl⟩
      | _ => exact ⟨rfl, rfl⟩⟩
    replaced := carriesOption_of_fieldAt e.replaced rfl rfl }

/-- A TRIGGERS entry as fields. -/
def logFields (e : LogEntry) : List (Nat × Nat) := [(1, e.entry.val), (4, e.time), flagField e.superseded]

theorem logBytes_eq_fieldsBytes (e : LogEntry) : logBytes e = fieldsBytes (logFields e) := by
  simp [logBytes, logFields, fieldsBytes]

theorem logBytes_layout (e : LogEntry) : LogLayout e (logBytes e) := by
  rw [logBytes_eq_fieldsBytes]
  exact {
    length := by simp [length_fieldsBytes, logFields, flagField]
    entry := carries_of_fieldAt rfl
    time := carries_of_fieldAt rfl
    superseded := carriesFlag_of_fieldAt e.superseded rfl Iff.rfl }

/-- A MARKS entry as fields. -/
def markFields (m : Mark) : List (Nat × Nat) :=
  [(4, m.time), (1, m.state.val), (2, m.step), flagField m.live.isSome, optField m.live]

theorem markBytes_eq_fieldsBytes (m : Mark) : markBytes m = fieldsBytes (markFields m) := by
  simp [markBytes, markFields, fieldsBytes, optField, optBytes]

theorem markBytes_layout (e : Mark) : MarkLayout e (markBytes e) := by
  rw [markBytes_eq_fieldsBytes]
  exact {
    length := by simp [length_fieldsBytes, markFields, flagField, optField]
    time := carries_of_fieldAt rfl
    state := carries_of_fieldAt rfl
    step := carries_of_fieldAt rfl
    live := carriesOption_of_fieldAt e.live rfl rfl }

/-- An INPUTS entry as fields. -/
def countsFields (c : InputCounts) : List (Nat × Nat) := [(2, c.bounces), (2, c.edges), (2, c.periods)]

theorem inputBytes_eq_fieldsBytes (c : InputCounts) : inputBytes c = fieldsBytes (countsFields c) := by
  simp [inputBytes, countsFields, fieldsBytes]

theorem inputBytes_layout (e : InputCounts) : CountsLayout e (inputBytes e) := by
  rw [inputBytes_eq_fieldsBytes]
  exact {
    length := by simp [length_fieldsBytes, countsFields]
    bounces := carries_of_fieldAt rfl
    edges := carries_of_fieldAt rfl
    periods := carries_of_fieldAt rfl }

/-- The entries of a list, each laid out (R169). -/
theorem sectionLayout_map {α : Type} {layout : α → List Byte → Prop} {bytes : α → List Byte}
    (each : ∀ x, layout x (bytes x)) (items : List α) : SectionLayout layout items (items.map bytes) := by
  refine ⟨List.length_map .., fun i x b item entry => ?_⟩
  rw [List.getElem?_map, item] at entry
  cases entry
  exact each x

/-! ## RRPT (R169, R170) -/

section
variable {s : State} (h : LinkFree s) (t : Time) (tag : Byte) {body : List Byte}
include h

theorem LinkFree.exec_rrpt (length : body.length = 4) {z : State} {reply : List Byte}
    (free : z.link.queue = [])
    (answers : readReport body ((s.advance t).queued { kind := 0x51, tag, body }) =
      (z.queued { kind := 0x51, tag, body }, reply)) :
    exec (.rrpt t tag body) s = .next (z.replied { kind := 0x51, tag, body } reply) :=
  h.answered t tag 0x51 body z reply (by decide) (by simp [lengthOk, length]) free
    (congrArg atOnce answers)

theorem LinkFree.exec_relr (length : body.length = 3) {z : State} {reply : List Byte}
    (free : z.link.queue = [])
    (answers : releaseReport body ((s.advance t).queued { kind := 0x52, tag, body }) =
      (z.queued { kind := 0x52, tag, body }, reply)) :
    exec (.relr t tag body) s = .next (z.replied { kind := 0x52, tag, body } reply) :=
  h.answered t tag 0x52 body z reply (by decide) (by simp [lengthOk, length]) free
    (congrArg atOnce answers)

end

theorem find_eq_none {r : ReportStore} {n : Nat} (absent : ∀ h ∈ r.held, h.report.shotNo ≠ n) :
    r.find n = none := by
  unfold ReportStore.find
  rw [List.find?_eq_none]
  intro h m
  simpa using absent h m

theorem readReport_unknown {body : List Byte} {s : State} (unknown : readSection (field body 2 1) = none) :
    readReport body s = refused .paramRange s := by
  unfold readReport
  rw [unknown]

theorem readReport_absent {body : List Byte} {s : State} {sec : Section}
    (known : readSection (field body 2 1) = some sec) (absent : s.rep.find (field body 0 2) = none) :
    readReport body s = refused .notFound s := by
  unfold readReport
  rw [known]
  dsimp only
  rw [absent]

theorem readReport_found {body : List Byte} {s : State} {sec : Section} {h : HeldReport}
    (known : readSection (field body 2 1) = some sec) (found : s.rep.find (field body 0 2) = some h) :
    readReport body s = results (sectionBody h.report sec (field body 3 1))
      (if sec = .header ∧ field body 3 1 = 0 then { s with rep := s.rep.markRead (field body 0 2) } else s) := by
  unfold readReport
  rw [known]
  dsimp only
  rw [found]

theorem markRead_eq (n : Nat) (r : ReportStore) : r.markRead n = { r with held := r.held.map fun g =>
    if g.report.shotNo = n then { g with unread := false } else g } := by
  simp [ReportStore.markRead]

/-! ## RELR (R171) -/

theorem flagOf_large {v : Nat} (large : 2 ≤ v) : flagOf v = none := by
  unfold flagOf
  split
  case h_1 => omega
  case h_2 => omega
  case h_3 => rfl

theorem flagOf_small {v : Nat} (small : v ≤ 1) : flagOf v = some (decide (v = 1)) := by
  interval_cases v <;> rfl

theorem releaseReport_range {body : List Byte} {s : State} (large : 2 ≤ field body 2 1) :
    releaseReport body s = refused .paramRange s := by
  unfold releaseReport
  rw [flagOf_large large]

theorem releaseReport_all {body : List Byte} {s : State} (small : field body 2 1 ≤ 1)
    (all : field body 0 2 = 0) : releaseReport body s = done { s with rep := s.rep.releaseRead } := by
  unfold releaseReport
  rw [flagOf_small small]
  exact if_pos all

theorem releaseReport_absent {body : List Byte} {s : State} (small : field body 2 1 ≤ 1)
    (one : field body 0 2 ≠ 0) (absent : s.rep.find (field body 0 2) = none) :
    releaseReport body s = refused .notFound s := by
  unfold releaseReport
  rw [flagOf_small small]
  dsimp only
  rw [if_neg one, absent]

theorem releaseReport_found {body : List Byte} {s : State} {h : HeldReport} (small : field body 2 1 ≤ 1)
    (one : field body 0 2 ≠ 0) (found : s.rep.find (field body 0 2) = some h) : releaseReport body s =
      if h.unread = true ∧ field body 2 1 = 0 then refused .unreadReport s
      else done { s with rep := s.rep.release (field body 0 2) } := by
  unfold releaseReport
  rw [flagOf_small small]
  dsimp only
  rw [if_neg one, found]
  refine if_congr ?_ rfl rfl
  interval_cases field body 2 1 <;> simp

/-- Settles O13: the parts of RRPT, the layouts of the sections, and RELR. -/
theorem reportsAreReadAndFreed : Obligations.ReportsAreReadAndFreed := by
  refine ⟨fun t tag body s h length => ⟨fun unknown => ?_, fun sec known => ⟨fun absent => ?_,
    fun r found => ?_⟩⟩, fun r => ⟨?header, ?_, ?_, ?_, ?_, ?operations, ?_, ?_, ?_⟩, ?perReply,
    fun t tag body s h length => ⟨fun large => ?_, fun all small => ?_, fun one small absent => ?_,
      fun r one found => ⟨fun unread kept => ?_, fun may => ?_⟩⟩⟩
  · exact h.exec_rrpt t tag length (z := s.advance t) h.noRequest (readReport_unknown unknown)
  · exact h.exec_rrpt t tag length (z := s.advance t) h.noRequest
      (readReport_absent known (find_eq_none absent))
  · refine h.exec_rrpt t tag length (z := { s.advance t with rep := { s.rep with held := _ } }) h.noRequest
      ((readReport_found (s := (s.advance t).queued _) known found).trans ?_)
    by_cases carried : sec = .header ∧ field body 3 1 = 0
    · rw [if_pos carried, if_pos carried, markRead_eq]
      rfl
    · rw [if_neg carried, if_neg carried]
      rfl
  case header =>
    exact ⟨headerBytes r, rfl, headerBytes_eq_fieldsBytes r ▸ headerFields_layout r⟩
  · exact sectionLayout_map trailBytes_layout _
  · exact List.length_mapIdx ..
  · intro i e item
    exact ⟨timerBytes i e, by simp [sectionEntries, item], timerBytes_layout i e⟩
  · exact sectionLayout_map gradeBytes_layout _
  case operations =>
    exact ⟨_, _, rfl, sectionLayout_map (opBytes_layout 0) _, sectionLayout_map (opBytes_layout 1) _⟩
  · exact sectionLayout_map logBytes_layout _
  · exact sectionLayout_map markBytes_layout _
  · exact sectionLayout_map inputBytes_layout _
  case perReply =>
    intro n sec known
    unfold readSection at known
    split at known <;> cases known <;> rfl
  · exact h.exec_relr t tag length (z := s.advance t) h.noRequest (releaseReport_range large)
  · exact h.exec_relr t tag length (z := { s.advance t with rep := s.rep.releaseRead }) h.noRequest
      (releaseReport_all small all)
  · exact h.exec_relr t tag length (z := s.advance t) h.noRequest
      (releaseReport_absent small one (find_eq_none absent))
  · refine h.exec_relr t tag length (z := s.advance t) h.noRequest
      ((releaseReport_found (s := (s.advance t).queued _) (by omega) one found).trans (if_pos ⟨unread, kept⟩))
  · refine h.exec_relr t tag length (z := { s.advance t with rep := s.rep.release (field body 0 2) })
      h.noRequest ((releaseReport_found (s := (s.advance t).queued _) (by omega) one found).trans (if_neg ?_))
    rintro ⟨unread, kept⟩
    rcases may with ⟨read, -⟩ | forced
    · simp [unread] at read
    · omega

end Sys2Proof.Machine
end

section
/-! PROOFS. The editing and configuring messages: their effects, and their refusals by state and by range (R9,
R10, R12, R64, R68, R78, R85, R101, R115, R163, R164). -/

namespace Sys2Proof.Machine

/-- A request command that the link takes at once, and that its block answers at once (R175 to R178). -/
theorem LinkFree.exec_answered {c : Instr} {t : Time} {f : Frame} {s : State}
    (asks : requestOf c = some (t, f)) (h : LinkFree s) (known : messageCodes.contains f.kind = true)
    (length : lengthOk f.kind f.body = true) {z : State} {reply : List Byte} (free : z.link.queue = [])
    (answers : message f.kind f.body ((s.advance t).queued f) = (z.queued f, .reply reply)) :
    exec c s = .next (z.replied f reply) := by
  rw [exec_request asks]
  exact congrArg Host.Outcome.next
    (h.request_replied free ((respond_message known length).trans answers))

/-! ## Effects (R9) -/

/-- An accepted edit whose effect leaves the link alone. -/
theorem LinkFree.exec_edited {c : Instr} {t : Time} {f : Frame} {s : State} {α : Type} {a : α}
    {effect : α → State → State} (asks : requestOf c = some (t, f)) (h : LinkFree s)
    (known : messageCodes.contains f.kind = true) (length : lengthOk f.kind f.body = true)
    (editable : s.seq.st.editable = true) (free : (effect a (s.advance t)).link.queue = [])
    (blind : effect a ((s.advance t).queued f) = (effect a (s.advance t)).queued f)
    (edits : message f.kind f.body ((s.advance t).queued f) =
      atOnce (editing (some a) effect ((s.advance t).queued f))) :
    exec c s = .next ((effect a (s.advance t)).withdraw.replied f [0x00]) := by
  refine h.exec_answered asks known length (z := (effect a (s.advance t)).withdraw) free ?_
  rw [edits, editing_accepted a effect (s := (s.advance t).queued f) editable, blind, State.withdraw_queued]
  rfl

/-- Settles O20: each effect, and the withdrawal behind it. -/
theorem editsTakeEffect : Obligations.EditsTakeEffect := by
  intro t tag body s h editable
  refine ⟨fun i r length read => ?_, fun i e length read => ?_, fun m c length read => ?_,
    fun c p length read => ?_, fun g r length read => ?_⟩
  · refine h.exec_edited (f := { kind := 0x10, tag, body }) (a := (i, r)) (effect := fun r u =>
      { u with seq := { u.seq with table := u.seq.table.set r.1 (some r.2) } }) rfl (by rfl) length editable
      h.noRequest rfl ?_
    change atOnce (loadState body _) = _
    rw [loadState, read]
  · refine h.exec_edited (f := { kind := 0x13, tag, body }) (a := (i, e)) (effect := fun r u =>
      { u with trg := u.trg.set r.1 { entry := some r.2, count := 0 } }) rfl (by rfl)
      (by simp [lengthOk, length]) editable h.noRequest rfl ?_
    change atOnce (loadTrigger body _) = _
    rw [loadTrigger, read]
  · refine h.exec_edited (f := { kind := 0x14, tag, body }) (a := (m, c)) (effect := fun r u =>
      { u with tmr := u.tmr.modify r.1 fun m => { m with cfg := r.2 } }) rfl (by rfl)
      (by simp [lengthOk, length]) editable h.noRequest rfl ?_
    change atOnce (configureTimer body _) = _
    rw [configureTimer, read]
  · refine h.exec_edited (f := { kind := 0x16, tag, body }) (a := (c, p)) (effect := fun r u =>
      { u with rep := { u.rep with curves := u.rep.curves.set r.1 r.2 } }) rfl (by rfl) length editable
      h.noRequest rfl ?_
    change atOnce (loadCurve body _) = _
    rw [loadCurve, read]
  · refine h.exec_edited (f := { kind := 0x17, tag, body }) (a := (g, r)) (effect := fun r u =>
      { u with rep := { u.rep with grades := u.rep.grades.set r.1 r.2 } }) rfl (by rfl)
      (by simp [lengthOk, length]) editable h.noRequest rfl ?_
    change atOnce (loadGrade body _) = _
    rw [loadGrade, read]

/-! ## Refusals -/

theorem editing_wrongState {α : Type} (operands : Option α) (effect : α → State → State) {s : State}
    (busy : s.seq.st.editable = false) : editing operands effect s = refused .wrongState s := by
  unfold editing
  rw [busy]
  rfl

theorem editing_range {α : Type} (effect : α → State → State) {s : State}
    (editable : s.seq.st.editable = true) : editing none effect s = refused .paramRange s := by
  unfold editing
  rw [editable]
  rfl

/-- The kinds of the editing and configuring messages. -/
def editKinds : List Byte := [0x10, 0x11, 0x12, 0x13, 0x14, 0x15, 0x16, 0x17, 0x20, 0x21, 0x22]

theorem editKinds_known {kind : Byte} (edits : kind ∈ editKinds) : messageCodes.contains kind = true := by
  have all : ∀ k ∈ editKinds, messageCodes.contains k = true := by decide
  exact all kind edits

/-- Outside EMPTY and READY each of them is refused by the state (R9). -/
theorem message_wrongState {kind : Byte} (edits : kind ∈ editKinds) (body : List Byte) {s : State}
    (busy : s.seq.st.editable = false) : message kind body s = atOnce (refused .wrongState s) := by
  have no : ¬ s.seq.st.editable = true := by simp [busy]
  simp only [editKinds, List.mem_cons, List.not_mem_nil, or_false] at edits
  rcases edits with rfl | rfl | rfl | rfl | rfl | rfl | rfl | rfl | rfl | rfl | rfl
  · exact congrArg atOnce (editing_wrongState (readLsta body) _ busy)
  · exact congrArg atOnce (editing_wrongState (some ()) _ busy)
  · exact congrArg atOnce (if_neg no)
  · exact congrArg atOnce (editing_wrongState (readLtrg body) _ busy)
  · exact congrArg atOnce (editing_wrongState (readCtmr body) _ busy)
  · exact congrArg atOnce (if_neg no)
  · exact congrArg atOnce (editing_wrongState (readLcrv body) _ busy)
  · exact congrArg atOnce (editing_wrongState (readLgrd body) _ busy)
  · exact congrArg atOnce (if_neg no)
  · exact congrArg atOnce (if_neg no)
  · exact congrArg atOnce (if_neg no)

section
variable {body : List Byte} {s : State} (editable : s.seq.st.editable = true)
include editable

theorem commitSequence_range (bad : readCmit body = none) : commitSequence body s = refused .paramRange s := by
  unfold commitSequence
  rw [if_pos editable, bad]

theorem configureBreaker_range (bad : readCbrk body = none) :
    configureBreaker body s = refused .paramRange s := by
  unfold configureBreaker
  rw [if_pos editable, bad]

theorem setMap_range (bad : readSmap body = none) : setMap body s = refused .paramRange s := by
  unfold setMap
  rw [if_pos editable, bad]

theorem configureInput_range (bad : readCinp body = none) : configureInput body s = refused .paramRange s := by
  unfold configureInput
  rw [if_pos editable, bad]

theorem learnThreshold_range (bad : readLrnt body (Config.missingSplitByte s.freeCount) = none) :
    learnThreshold body s = refused .paramRange (useFree body s) := by
  unfold learnThreshold
  rw [if_pos editable]
  dsimp only
  rw [bad]

end

/-- The operands of the message are out of range. -/
def OutOfRange (f : Frame) : Prop :=
  f.kind = 0x10 ∧ readLsta f.body = none ∨ f.kind = 0x12 ∧ readCmit f.body = none ∨
  f.kind = 0x13 ∧ readLtrg f.body = none ∨ f.kind = 0x14 ∧ readCtmr f.body = none ∨
  f.kind = 0x15 ∧ readCbrk f.body = none ∨ f.kind = 0x16 ∧ readLcrv f.body = none ∨
  f.kind = 0x17 ∧ readLgrd f.body = none ∨ f.kind = 0x20 ∧ readSmap f.body = none ∨
  f.kind = 0x21 ∧ readCinp f.body = none

theorem OutOfRange.edits {f : Frame} (bad : OutOfRange f) : f.kind ∈ editKinds := by
  rcases bad with ⟨e, -⟩ | ⟨e, -⟩ | ⟨e, -⟩ | ⟨e, -⟩ | ⟨e, -⟩ | ⟨e, -⟩ | ⟨e, -⟩ | ⟨e, -⟩ | ⟨e, -⟩ <;>
    (rw [e]; decide)

/-- In EMPTY and READY each of them is refused by its operands. -/
theorem message_range {f : Frame} (bad : OutOfRange f) {s : State} (editable : s.seq.st.editable = true) :
    message f.kind f.body s = atOnce (refused .paramRange s) := by
  rcases bad with ⟨e, bad⟩ | ⟨e, bad⟩ | ⟨e, bad⟩ | ⟨e, bad⟩ | ⟨e, bad⟩ | ⟨e, bad⟩ | ⟨e, bad⟩ | ⟨e, bad⟩ |
    ⟨e, bad⟩ <;> rw [e]
  · change atOnce (editing (readLsta f.body) _ s) = _
    rw [bad, editing_range _ editable]
  · exact congrArg atOnce (commitSequence_range editable bad)
  · change atOnce (editing (readLtrg f.body) _ s) = _
    rw [bad, editing_range _ editable]
  · change atOnce (editing (readCtmr f.body) _ s) = _
    rw [bad, editing_range _ editable]
  · exact congrArg atOnce (configureBreaker_range editable bad)
  · change atOnce (editing (readLcrv f.body) _ s) = _
    rw [bad, editing_range _ editable]
  · change atOnce (editing (readLgrd f.body) _ s) = _
    rw [bad, editing_range _ editable]
  · exact congrArg atOnce (setMap_range editable bad)
  · exact congrArg atOnce (configureInput_range editable bad)

theorem useFree_five {body : List Byte} (five : body.length = 5) (s : State) :
    useFree body s = { s with freeCount := s.freeCount + 1 } := if_pos five

theorem useFree_other {body : List Byte} (other : body.length ≠ 5) (s : State) : useFree body s = s :=
  if_neg other

/-- The free byte is read from a body of LEN 5 alone (log 32). -/
theorem readLrnt_six {body : List Byte} (six : body.length = 6) (low low' : Byte) :
    readLrnt body low = readLrnt body low' := by
  have split : splitLevel body low = splitLevel body low' := by simp [splitLevel, six]
  unfold readLrnt
  rw [split]

/-- Settles O21: the state, then the operands, and LRNT with its free byte. -/
theorem editsAreRefused : Obligations.EditsAreRefused := by
  intro c t f s asks h length
  have lrnt (e : f.kind = 0x22) : f.kind ∈ editKinds := by rw [e]; decide
  refine ⟨fun edits busy => ?_, fun bad editable => ?_, fun e five bad editable => ?_,
    fun low e six bad editable => ?_⟩
  · exact h.exec_answered asks (editKinds_known edits) length (z := s.advance t) h.noRequest
      (message_wrongState edits f.body (s := (s.advance t).queued f) busy)
  · exact h.exec_answered asks (editKinds_known (OutOfRange.edits bad)) length (z := s.advance t) h.noRequest
      (message_range bad (s := (s.advance t).queued f) editable)
  · refine h.exec_answered asks (editKinds_known (lrnt e)) length
      (z := { s.advance t with freeCount := s.freeCount + 1 }) h.noRequest ?_
    rw [e]
    change atOnce (learnThreshold f.body _) = _
    rw [learnThreshold_range (s := (s.advance t).queued f) editable bad, useFree_five five]
    rfl
  · refine h.exec_answered asks (editKinds_known (lrnt e)) length (z := s.advance t) h.noRequest ?_
    rw [e]
    change atOnce (learnThreshold f.body _) = _
    rw [learnThreshold_range (s := (s.advance t).queued f) editable ((readLrnt_six six _ low).trans bad),
      useFree_other (by omega)]
    rfl

end Sys2Proof.Machine
end

section
/-! PROOFS. The operands that the readers of the requests let through lie in their ranges (R8, R19, R68, R78,
R101, R115, R163, R164). -/

namespace Sys2Proof.Machine

/-! ## Values within a range -/

theorem within_eq_some {lo hi v w : Nat} : within lo hi v = some w ↔ (lo ≤ w ∧ w ≤ hi) ∧ v = w := by
  unfold within
  split
  case isTrue h => rw [Option.some.injEq]; exact ⟨fun e => by subst e; exact ⟨h, rfl⟩, fun e => e.2⟩
  case isFalse h => simp only [reduceCtorEq, false_iff]; rintro ⟨range, rfl⟩; exact h range

theorem withinInt_eq_some {lo hi v w : Int} : withinInt lo hi v = some w ↔ (lo ≤ w ∧ w ≤ hi) ∧ v = w := by
  unfold withinInt
  split
  case isTrue h => rw [Option.some.injEq]; exact ⟨fun e => by subst e; exact ⟨h, rfl⟩, fun e => e.2⟩
  case isFalse h => simp only [reduceCtorEq, false_iff]; rintro ⟨range, rfl⟩; exact h range

/-- A byte of a body. -/
theorem field_byte_lt (b : List Byte) (o : Nat) : field b o 1 < 256 := by
  unfold field
  rcases b.drop o with _ | ⟨x, rest⟩
  · simp [ofBytes]
  · simpa [ofBytes] using x.isLt

section
variable {b : List Byte}

theorem readCmit_range {h : Header} (read : readCmit b = some h) :
    h.tail ≤ 10000 ∧ 1 ≤ h.persistence ∧ h.persistence ≤ 50 := by
  simp only [readCmit, Option.bind_eq_bind, Option.bind_eq_some_iff, within_eq_some] at read
  obtain ⟨tail, ⟨⟨-, htail⟩, -⟩, stop, -, p, ⟨hp, -⟩, e⟩ := read
  cases e
  exact ⟨htail, hp⟩

/-- The stop limit of COUNT is held with 1, and another is checked (R101). -/
theorem readStopLimit_range {mode : TimerMode} {v limit : Nat} (read : readStopLimit mode v = some limit) :
    1 ≤ limit ∧ limit ≤ 4 ∧ ∀ k, mode = .count k → limit = 1 := by
  cases mode with
  | count k =>
    cases read
    exact ⟨le_rfl, by decide, fun _ _ => rfl⟩
  | interval => exact ⟨(within_eq_some.1 read).1.1, (within_eq_some.1 read).1.2, fun _ e => by cases e⟩
  | width k => exact ⟨(within_eq_some.1 read).1.1, (within_eq_some.1 read).1.2, fun _ e => by cases e⟩

theorem readCtmr_range {m : TimerId} {c : TimerConfig} (read : readCtmr b = some (m, c)) :
    c.timeout ≤ 600000 ∧ 1 ≤ c.limit ∧ c.limit ≤ 4 ∧ ∀ k, c.mode = .count k → c.limit = 1 := by
  simp only [readCtmr, Option.bind_eq_bind, Option.bind_eq_some_iff, within_eq_some] at read
  obtain ⟨m', -, enabled, -, mode, -, limit, hlimit, timeout, ⟨⟨-, htimeout⟩, -⟩, auto, -, e⟩ := read
  cases e
  exact ⟨htimeout, readStopLimit_range hlimit⟩

theorem readCbrk_range {k : BreakerId} {c : BrkConfig} (read : readCbrk b = some (k, c)) :
    c.openTime ≤ 1000 ∧ c.closeTime ≤ 1000 := by
  simp only [readCbrk, Option.bind_eq_bind, Option.bind_eq_some_iff, within_eq_some] at read
  obtain ⟨k', -, enabled, -, trip, -, close, -, openTime, ⟨⟨-, hopen⟩, -⟩, closeTime, ⟨⟨-, hclose⟩, -⟩, out52a,
    -, out52b, -, group, -, bus, -, startsOpen, -, e⟩ := read
  cases e
  exact ⟨hopen, hclose⟩

/-- Points read above a multiple rise strictly above it, and are as many as were asked for (R163). -/
theorem readPoints_range {n o below : Nat} {p : List Point} (read : readPoints b n o below = some p) :
    p.length = n ∧ p.Pairwise (fun x y => x.m < y.m) ∧
      ∀ x ∈ p, below < x.m ∧ x.m ≤ 1000000 ∧ x.t ≤ 600000000 := by
  induction n generalizing o below p with
  | zero =>
    cases read
    exact ⟨rfl, List.Pairwise.nil, by simp⟩
  | succ n ih =>
    simp only [readPoints, Option.bind_eq_bind, Option.bind_eq_some_iff, within_eq_some] at read
    obtain ⟨m, ⟨⟨above, mTop⟩, -⟩, t, ⟨⟨-, tTop⟩, -⟩, rest, hrest, e⟩ := read
    cases e
    obtain ⟨length, rises, each⟩ := ih hrest
    refine ⟨by simp [length], List.pairwise_cons.2 ⟨fun x hx => (each x hx).1, rises⟩, fun x hx => ?_⟩
    rcases List.mem_cons.1 hx with rfl | tail
    · exact ⟨above, mTop, tTop⟩
    · obtain ⟨low, top, time⟩ := each x tail
      exact ⟨by omega, top, time⟩

theorem readLcrv_range {c : CurveId} {p : List Point} (read : readLcrv b = some (c, some p)) :
    2 ≤ p.length ∧ p.length ≤ 16 ∧ p.Pairwise (fun x y => x.m < y.m) ∧
      ∀ x ∈ p, 1 ≤ x.m ∧ x.m ≤ 1000000 ∧ x.t ≤ 600000000 := by
  simp only [readLcrv, Option.bind_eq_bind, Option.bind_eq_some_iff] at read
  obtain ⟨c', -, read⟩ := read
  split at read
  · cases read
  · simp only [Option.bind_eq_some_iff, within_eq_some] at read
    obtain ⟨n, ⟨few, -⟩, points, hpoints, e⟩ := read
    cases e
    obtain ⟨length, rises, each⟩ := readPoints_range hpoints
    exact ⟨by omega, by omega, rises, each⟩

theorem readCharacteristic_range {e m : Nat} (read : readCharacteristic b = some (.definite e m)) :
    e ≤ 600000000 ∧ 1 ≤ m ∧ m ≤ 1000000 := by
  unfold readCharacteristic at read
  split at read
  · simp only [Option.bind_eq_bind, Option.bind_eq_some_iff, within_eq_some] at read
    obtain ⟨tExp, ⟨⟨-, he⟩, -⟩, mPick, ⟨hm, -⟩, same⟩ := read
    cases same
    exact ⟨he, hm⟩
  · simp at read
  · cases read

theorem readLgrd_range {g : GradeId} {r : Grade} (read : readLgrd b = some (g, some r)) : 1 ≤ r.lap ∧
    r.lap ≤ 4 ∧ 1 ≤ r.setting ∧ r.setting ≤ 50000 ∧ r.relTol ≤ 500 ∧ r.absTol ≤ 1000000 ∧
    ∀ e m, r.char = .definite e m → e ≤ 600000000 ∧ 1 ≤ m ∧ m ≤ 1000000 := by
  simp only [readLgrd, Option.bind_eq_bind, Option.bind_eq_some_iff] at read
  obtain ⟨g', -, filled, -, read⟩ := read
  split at read
  · simp only [Option.bind_eq_some_iff, within_eq_some] at read
    obtain ⟨timer, -, lap, ⟨hlap, -⟩, ref, -, setting, ⟨hsetting, -⟩, char, hchar, relTol, ⟨⟨-, hrel⟩, -⟩,
      absTol, ⟨⟨-, habs⟩, -⟩, e⟩ := read
    cases e
    refine ⟨hlap.1, hlap.2, hsetting.1, hsetting.2, hrel, habs, fun e m same => ?_⟩
    rw [show char = .definite e m from same] at hchar
    exact readCharacteristic_range hchar
  · cases read

theorem readCinp_range {k : InputId} {c : InputConfig} (read : readCinp b = some (k, c)) :
    c.code ≤ 15 ∧ c.debounce ≤ 250 ∧ c.limit ≤ 255 ∧ c.limit ≠ 1 := by
  simp only [readCinp, Option.bind_eq_bind, Option.bind_eq_some_iff, within_eq_some] at read
  obtain ⟨k', -, wet, -, code, ⟨⟨-, hcode⟩, -⟩, debounce, ⟨⟨-, hdebounce⟩, -⟩, activeHigh, -, read⟩ := read
  split at read
  case isTrue => cases read
  case isFalse notOne =>
    cases read
    exact ⟨hcode, hdebounce, Nat.le_of_lt_succ (field_byte_lt b 5), notOne⟩

theorem readLrnt_range {low : Byte} {k : InputId} {m : Method} (read : readLrnt b low = some (k, m)) :
    (∀ low high split, m = .fast low high split → low ≤ 15 ∧ high ≤ 15 ∧ 5 ≤ split ∧ split ≤ 300) ∧
    ∀ upper trim, m = .full upper trim → upper ≤ 15 ∧ -3 ≤ trim ∧ trim ≤ 3 := by
  simp only [readLrnt, Option.bind_eq_bind, Option.bind_eq_some_iff] at read
  obtain ⟨k', -, read⟩ := read
  split at read
  · simp only [Option.bind_eq_some_iff, within_eq_some] at read
    obtain ⟨lowCode, ⟨⟨-, hlow⟩, -⟩, highCode, ⟨⟨-, hhigh⟩, -⟩, split, ⟨hsplit, -⟩, e⟩ := read
    cases e
    exact ⟨(fun _ _ _ e => by cases e; exact ⟨hlow, hhigh, hsplit⟩), (fun _ _ e => by cases e)⟩
  · simp only [Option.bind_eq_some_iff, within_eq_some, withinInt_eq_some] at read
    obtain ⟨upper, ⟨⟨-, hupper⟩, -⟩, trim, ⟨htrim, -⟩, e⟩ := read
    cases e
    exact ⟨(fun _ _ _ e => by cases e), (fun _ _ e => by cases e; exact ⟨hupper, htrim⟩)⟩
  · cases read

theorem readArm_range {n : Nat} (read : readArm b = some (.pps n)) : 1 ≤ n ∧ n ≤ 60 := by
  unfold readArm at read
  split at read
  · cases read
  · simp only [Option.map_eq_some_iff, within_eq_some] at read
    obtain ⟨m, ⟨hm, -⟩, e⟩ := read
    cases e
    exact hm
  · simp only [Option.bind_eq_bind, Option.bind_eq_some_iff] at read
    obtain ⟨k, -, inactive, -, e⟩ := read
    cases e
  · cases read

end

/-- Settles O22, reader by reader. -/
theorem operandsStayInRange : Obligations.OperandsStayInRange := fun _ =>
  ⟨fun _ => readCmit_range, fun _ _ => readCtmr_range, fun _ _ => readCbrk_range, fun _ _ => readLcrv_range,
    fun _ _ => readLgrd_range, fun _ _ => readCinp_range, fun _ _ _ => readLrnt_range, fun _ => readArm_range⟩

end Sys2Proof.Machine
end

section
/-! PROOFS. A legal state record laid out by 11.8 reads back as itself, and what is read is legal (R3, R5,
R6, R7, R10, R190). -/

namespace Sys2Proof.Machine

/-! ## Bytes that stand at an offset of a body -/

/-- The bytes of `l` stand at offset `o` of the body. -/
def StandsAt (b : List Byte) (o : Nat) (l : List Byte) : Prop := ∃ rest, b.drop o = l ++ rest

theorem standsAt_append {b : List Byte} {o : Nat} {l m : List Byte} :
    StandsAt b o (l ++ m) ↔ StandsAt b o l ∧ StandsAt b (o + l.length) m := by
  unfold StandsAt
  constructor
  · rintro ⟨rest, h⟩
    exact ⟨⟨m ++ rest, by simpa using h⟩, rest, by simp [← List.drop_drop, h]⟩
  · rintro ⟨⟨rest, h⟩, rest', h'⟩
    have tail : rest = m ++ rest' := by simpa [← List.drop_drop, h] using h'
    exact ⟨rest', by simp [h, tail]⟩

theorem standsAt_zero (b : List Byte) : StandsAt b 0 b := ⟨[], by simp⟩

/-- A field that holds a value of its width is that value. -/
theorem StandsAt.field {b : List Byte} {o n v : Nat} (h : StandsAt b o (toBytes n v)) (small : v < 256 ^ n) :
    field b o n = v := by
  obtain ⟨rest, h⟩ := h
  rw [Machine.field, h, List.take_left' (toBytes_length n v), ofBytes_toBytes, Nat.mod_eq_of_lt small]

/-- Members of equal length stand one after another. -/
theorem StandsAt.member {α : Type} {g : α → List Byte} {k : Nat} (each : ∀ x, (g x).length = k) {b : List Byte}
    {l : List α} {o : Nat} (h : StandsAt b o (l.flatMap g)) (i : Nat) (hi : i < l.length) :
    StandsAt b (o + k * i) (g l[i]) := by
  induction l generalizing o i with
  | nil => exact absurd hi (Nat.not_lt_zero i)
  | cons x l ih =>
    obtain ⟨first, others⟩ := standsAt_append.1 (by simpa using h)
    rw [each x] at others
    cases i with
    | zero => exact first
    | succ i =>
      have := ih others i (by simpa using hi)
      rwa [show o + k + k * i = o + k * (i + 1) by ring] at this

theorem length_flatMap_of_each {α : Type} {g : α → List Byte} {k : Nat} (each : ∀ x, (g x).length = k)
    (l : List α) : (l.flatMap g).length = k * l.length := by
  simp [List.length_flatMap, each, Nat.mul_comm]

/-- A field lies within its width. -/
theorem field_lt (b : List Byte) (o n : Nat) : field b o n < 256 ^ n := by
  have bound : ∀ l : List Byte, ofBytes l < 256 ^ l.length := fun l => by
    induction l using List.reverseRecOn with
    | nil => simp [ofBytes]
    | append_singleton l x ih =>
      rw [ofBytes_concat, List.length_append, List.length_singleton, pow_succ]
      have := x.isLt
      omega
  exact (bound _).trans_le (Nat.pow_le_pow_right (by decide) (by simp))

/-! ## Flags, indices and sets read back -/

theorem within_self {lo hi v : Nat} (low : lo ≤ v) (high : v ≤ hi) : within lo hi v = some v :=
  within_eq_some.2 ⟨⟨low, high⟩, rfl⟩

theorem withinInt_self {lo hi v : Int} (low : lo ≤ v) (high : v ≤ hi) : withinInt lo hi v = some v :=
  withinInt_eq_some.2 ⟨⟨low, high⟩, rfl⟩

theorem StandsAt.flag {b : List Byte} {o : Nat} {f : Bool} (h : StandsAt b o (flagByte f)) :
    flagOf (Machine.field b o 1) = some f := by
  rw [flagByte_eq] at h
  rw [h.field (by cases f <;> decide)]
  cases f <;> rfl

theorem StandsAt.index {b : List Byte} {o n : Nat} {i : Fin n} (h : StandsAt b o (toBytes 1 i.val))
    (small : n ≤ 256) : index0 n (Machine.field b o 1) = some i := by
  rw [h.field (by have := i.isLt; omega), index0_val]

theorem testBit_items {n : Nat} (s : Bank Bool n) (i : Fin n) : (bitField s.items).testBit i.val = s.get i :=
  testBit_bitField s.items i.val _ (List.getElem?_eq_getElem (by simp [s.size]))

@[simp] theorem setOf_get (m v : Nat) (i : Fin m) : (setOf m v).get i = v.testBit i.val := Bank.get_ofFn ..

theorem setOf_bitField {n : Nat} (s : Bank Bool n) : setOf n (bitField s.items) = s :=
  Bank.ext_get fun i => by rw [setOf_get, testBit_items]

/-- A set laid out in bytes enough for its members reads back. -/
theorem StandsAt.set {b : List Byte} {o n m : Nat} {s : Bank Bool m} (h : StandsAt b o (setBytes n s))
    (room : m ≤ 8 * n) : Machine.field b o n = bitField s.items := by
  refine StandsAt.field h ((bitField_lt s.items).trans_le ?_)
  rw [s.size, show 256 = 2 ^ 8 by rfl, ← pow_mul]
  exact Nat.pow_le_pow_right (by decide) room

/-- A signed value of a 4-byte field reads back. -/
theorem StandsAt.signed {b : List Byte} {o : Nat} {v : Int} (h : StandsAt b o (signedBytes 4 v))
    (range : -2147483648 ≤ v ∧ v < 2147483648) : signedField b o 4 = v := by
  have value : Machine.field b o 4 = (v % 4294967296).toNat := StandsAt.field h (by norm_num; omega)
  simp only [signedField, value, show 256 ^ 4 = 4294967296 by norm_num]
  split <;> omega

/-! ## Rules, exceptions and ramps -/

@[simp] theorem ruleBytes_length (r : Rule) : (ruleBytes r).length = 5 := by simp [ruleBytes, flagByte]
@[simp] theorem exceptionBytes_length (e : ArrivalException) : (exceptionBytes e).length = 6 := by
  simp [exceptionBytes]
@[simp] theorem chanBytes_length (c : ChanSetting) : (chanBytes c).length = 8 := by simp [chanBytes]
@[simp] theorem rampBytes_length (r : Ramp) : (rampBytes r).length = 11 := by
  simp [rampBytes, setBytes, signedBytes]

section
variable {b : List Byte} {o : Nat}

theorem StandsAt.rule {r : Rule} (h : StandsAt b o (ruleBytes r)) (legal : r.Legal) : readRule b o = some r := by
  obtain ⟨mode, reset⟩ := r
  simp only [ruleBytes, standsAt_append, List.length_append, toBytes_length, Nat.reduceAdd] at h
  obtain ⟨⟨⟨hmode, href⟩, hangle⟩, hreset⟩ := h
  unfold readRule
  rw [hreset.flag]
  cases mode with
  | immediate => rw [hmode.field (by decide)]; rfl
  | atPps => rw [hmode.field (by decide)]; rfl
  | atAngle ref angle =>
    have within : angle ≤ 35999 := legal ref angle rfl
    rw [hmode.field (v := 1) (by decide)]
    simp only [ArrivalMode.code] at href hangle ⊢
    rw [href.index (by decide), hangle.field (by norm_num; omega), within_self (Nat.zero_le _) within]
    rfl

theorem readRule_legal {r : Rule} (read : readRule b o = some r) : r.Legal := by
  intro ref angle atAngle
  simp only [readRule, Option.bind_eq_bind, Option.bind_eq_some_iff] at read
  obtain ⟨reset, -, read⟩ := read
  split at read
  · cases read; cases atAngle
  · simp only [Option.bind_eq_some_iff, within_eq_some] at read
    obtain ⟨ref', -, angle', ⟨⟨-, range⟩, -⟩, e⟩ := read
    cases e
    cases atAngle
    exact range
  · cases read; cases atAngle
  · cases read

theorem StandsAt.exceptions {l : List ArrivalException} (h : StandsAt b o (l.flatMap exceptionBytes))
    (legal : ∀ e ∈ l, e.rule.Legal) : readExceptions b l.length o = some l := by
  induction l generalizing o with
  | nil => rfl
  | cons e l ih =>
    obtain ⟨first, others⟩ := standsAt_append.1 (by simpa using h)
    obtain ⟨source, rule⟩ := standsAt_append.1 first
    rw [exceptionBytes_length] at others
    rw [toBytes_length] at rule
    rw [List.length_cons, readExceptions, source.index (by decide), rule.rule (legal e (by simp)),
      ih others fun x hx => legal x (by simp [hx])]
    rfl

theorem readExceptions_legal {n : Nat} {l : List ArrivalException} (read : readExceptions b n o = some l) :
    l.length = n ∧ ∀ e ∈ l, e.rule.Legal := by
  induction n generalizing o l with
  | zero => cases read; exact ⟨rfl, by simp⟩
  | succ n ih =>
    simp only [readExceptions, Option.bind_eq_bind, Option.bind_eq_some_iff] at read
    obtain ⟨source, -, rule, hrule, rest, hrest, e⟩ := read
    cases e
    obtain ⟨length, legal⟩ := ih hrest
    exact ⟨by simp [length], by simpa using ⟨readRule_legal hrule, legal⟩⟩

theorem readQuantity_code (q : Quantity) : readQuantity q.code = some (q, (q.limit : Int)) := by cases q <;> rfl

theorem readQuantity_eq_some {v : Nat} {q : Quantity} {limit : Int} (read : readQuantity v = some (q, limit)) :
    limit = q.limit := by
  unfold readQuantity at read
  split at read <;> cases read <;> rfl

theorem StandsAt.ramp {r : Ramp} (h : StandsAt b o (rampBytes r)) (legal : r.Legal) : readRamp b o = some r := by
  obtain ⟨chans, quantity, step, dwell, count⟩ := r
  obtain ⟨⟨c, hc⟩, ⟨moves, magnitude⟩, ⟨dwellLow, dwellHigh⟩, countLow, countHigh⟩ := legal
  dsimp only at c hc moves magnitude dwellLow dwellHigh countLow countHigh
  simp only [rampBytes, standsAt_append, List.length_append, toBytes_length, setBytes, signedBytes,
    Nat.reduceAdd] at h
  obtain ⟨⟨⟨⟨hset, hquantity⟩, hstep⟩, hdwell⟩, hcount⟩ := h
  have limited : quantity.limit ≤ 100000 := by cases quantity <;> decide
  have some_ : bitField chans.items ≠ 0 := fun none => by
    rw [← testBit_items, none, Nat.zero_testBit] at hc
    cases hc
  have few : bitField chans.items < 2 ^ 10 := by simpa [chans.size] using bitField_lt chans.items
  have stepRead : signedField b (o + 3) 4 = step := StandsAt.signed hstep (by omega)
  unfold readRamp
  rw [StandsAt.set (s := chans) hset (by decide), within_self (by omega) (by omega),
    hquantity.field (by cases quantity <;> decide), readQuantity_code, stepRead]
  simp only [Option.bind_eq_bind, Option.bind_some]
  rw [withinInt_self (by omega) (by omega), Option.bind_some, if_neg moves, hdwell.field (by norm_num; omega),
    within_self dwellLow dwellHigh, Option.bind_some, hcount.field (by norm_num; omega),
    within_self countLow countHigh, Option.bind_some, setOf_bitField]

theorem readRamp_legal {r : Ramp} (read : readRamp b o = some r) : r.Legal := by
  simp only [readRamp, Option.bind_eq_bind, Option.bind_eq_some_iff, within_eq_some, withinInt_eq_some] at read
  obtain ⟨set, ⟨⟨setLow, setHigh⟩, -⟩, ⟨quantity, limit⟩, hquantity, step, ⟨⟨stepLow, stepHigh⟩, -⟩, read⟩ := read
  split at read
  case isTrue => cases read
  case isFalse moves =>
    simp only [Option.bind_eq_some_iff, within_eq_some] at read
    obtain ⟨dwell, ⟨hdwell, -⟩, count, ⟨hcount, -⟩, e⟩ := read
    cases e
    refine ⟨?_, ⟨moves, ?_⟩, hdwell, hcount⟩
    · obtain ⟨i, hi⟩ := Nat.exists_testBit_of_ne_zero (show set ≠ 0 by omega)
      have below : i < 10 := by
        have := Nat.ge_two_pow_of_testBit hi
        by_contra above
        have := Nat.pow_le_pow_right (show 0 < 2 by decide) (show 10 ≤ i by omega)
        omega
      exact ⟨⟨i, below⟩, by rw [setOf_get]; exact hi⟩
    · rw [readQuantity_eq_some hquantity] at stepLow stepHigh
      show step.natAbs ≤ quantity.limit
      omega

theorem StandsAt.rampOption {e : Nat} {r : Option Ramp} (h : StandsAt b (95 + 6 * e) (rampOptionBytes r))
    (legal : ∀ p, r = some p → p.Legal) : readRampOption b e = some r := by
  unfold readRampOption
  cases r with
  | none => rw [StandsAt.field (v := 0) h (by decide)]; rfl
  | some p =>
    obtain ⟨present, ramp⟩ := standsAt_append.1 (show StandsAt b _ (toBytes 1 1 ++ rampBytes p) from h)
    rw [toBytes_length, show 95 + 6 * e + 1 = 96 + 6 * e by omega] at ramp
    rw [present.field (by decide)]
    show (readRamp b (96 + 6 * e)).map some = _
    rw [ramp.ramp (legal p rfl)]
    rfl

theorem readRampOption_legal {e : Nat} {r : Option Ramp} (read : readRampOption b e = some r) :
    ∀ p, r = some p → p.Legal := by
  rintro p rfl
  unfold readRampOption at read
  split at read
  · cases read
  · obtain ⟨p', hp', e⟩ := Option.map_eq_some_iff.1 read
    cases e
    exact readRamp_legal hp'
  · cases read

/-! ## The channels and the next state -/

theorem StandsAt.chan {c : Channel} {x : ChanSetting} (h : StandsAt b (3 + 8 * c.val) (chanBytes x))
    (amp : x.amp ≤ ampLimit c) (angle : x.angle ≤ 35999) (freq : x.freq ≤ 1000000) :
    readChan b c = some x := by
  have limit : ampLimit c ≤ 50000 := by unfold ampLimit; split <;> decide
  simp only [chanBytes, standsAt_append, List.length_append, toBytes_length] at h
  obtain ⟨⟨hamp, hangle⟩, hfreq⟩ := h
  unfold readChan
  rw [hamp.field (by norm_num; omega), within_self (Nat.zero_le _) amp,
    show 5 + 8 * c.val = 3 + 8 * c.val + 2 by omega, hangle.field (by norm_num; omega),
    within_self (Nat.zero_le _) angle, show 7 + 8 * c.val = 3 + 8 * c.val + (2 + 2) by omega,
    hfreq.field (by norm_num; omega), within_self (Nat.zero_le _) freq]
  rfl

theorem readChan_range {c : Channel} {x : ChanSetting} (read : readChan b c = some x) :
    x.amp ≤ ampLimit c ∧ x.angle ≤ 35999 ∧ x.freq ≤ 1000000 := by
  simp only [readChan, Option.bind_eq_bind, Option.bind_eq_some_iff, within_eq_some] at read
  obtain ⟨amp, ⟨⟨-, hamp⟩, -⟩, angle, ⟨⟨-, hangle⟩, -⟩, freq, ⟨⟨-, hfreq⟩, -⟩, e⟩ := read
  cases e
  exact ⟨hamp, hangle, hfreq⟩

theorem readChans_of_each {x : Bank ChanSetting 10} (each : ∀ c, readChan b c = some (x.get c)) :
    readChans b = some x := by
  unfold readChans
  rw [if_pos (List.all_eq_true.2 fun c _ => by rw [each c]; rfl)]
  exact congrArg some (Bank.ext_get fun c => by rw [Bank.get_ofFn, each c]; rfl)

theorem readChans_eq_some {x : Bank ChanSetting 10} (read : readChans b = some x) (c : Channel) :
    readChan b c = some (x.get c) := by
  unfold readChans at read
  split at read
  case isFalse => cases read
  case isTrue all =>
    cases read
    obtain ⟨y, hy⟩ := Option.isSome_iff_exists.1 (List.all_eq_true.1 all c (List.mem_finRange c))
    rw [Bank.get_ofFn, hy]
    rfl

theorem readNext_code (n : Option StateIdx) : readNext ((n.map (·.val)).getD 0xFF) = some n := by
  cases n with
  | none => rfl
  | some i =>
    have := i.isLt
    show readNext i.val = _
    rw [readNext, if_neg (by omega), index0_val]
    rfl

theorem next_code_lt (n : Option StateIdx) : (n.map (·.val)).getD 0xFF < 256 := by
  cases n with
  | none => decide
  | some i => exact i.isLt.trans (by decide)

end

/-! ## The whole record -/

/-- The places of a record's items in its body (R190). -/
theorem lstaBody_stands (i : StateIdx) (r : StateRecord) : let b := lstaBody i r
    let e := r.exceptions.length
    StandsAt b 0 (toBytes 1 i.val) ∧ StandsAt b 1 (toBytes 2 r.tag) ∧
    StandsAt b 3 (r.chans.items.flatMap chanBytes) ∧ StandsAt b 83 (toBytes 4 r.duration) ∧
    StandsAt b 87 (toBytes 1 ((r.next.map (·.val)).getD 0xFF)) ∧ StandsAt b 88 (setBytes 1 r.pattern) ∧
    StandsAt b 89 (ruleBytes r.rule) ∧ StandsAt b 94 (toBytes 1 e) ∧
    StandsAt b 95 (r.exceptions.flatMap exceptionBytes) ∧ StandsAt b (95 + 6 * e) (rampOptionBytes r.ramp) := by
  have whole := standsAt_zero (lstaBody i r)
  rw (occs := .pos [2]) [lstaBody] at whole
  simp only [standsAt_append, List.length_append, toBytes_length, length_flatMap_of_each chanBytes_length,
    length_flatMap_of_each exceptionBytes_length, r.chans.size, setBytes, ruleBytes_length, Nat.zero_add,
    Nat.reduceAdd, Nat.reduceMul] at whole
  obtain ⟨⟨⟨⟨⟨⟨⟨⟨⟨idx, tag⟩, chans⟩, duration⟩, next⟩, pattern⟩, rule⟩, few⟩, exceptions⟩, ramp⟩ := whole
  exact ⟨idx, tag, chans, duration, next, pattern, rule, few, exceptions, ramp⟩

theorem lstaBody_length (i : StateIdx) (r : StateRecord) :
    (lstaBody i r).length = 95 + 6 * r.exceptions.length + (rampOptionBytes r.ramp).length := by
  simp only [lstaBody, List.length_append, toBytes_length, length_flatMap_of_each chanBytes_length,
    length_flatMap_of_each exceptionBytes_length, r.chans.size, setBytes, ruleBytes_length]

theorem rampOptionBytes_none_length : (rampOptionBytes none).length = 1 := rfl

theorem rampOptionBytes_some_length (p : Ramp) : (rampOptionBytes (some p)).length = 12 := by
  simp [rampOptionBytes]

theorem lstaLengthOk_body {i : StateIdx} {r : StateRecord} (few : r.exceptions.length ≤ 4) :
    lstaLengthOk (lstaBody i r) = true := by
  obtain ⟨-, -, -, -, -, -, -, count, -, ramp⟩ := lstaBody_stands i r
  have length := lstaBody_length i r
  have counted := count.field (by omega)
  unfold lstaLengthOk
  rw [counted]
  cases present : r.ramp with
  | none =>
    rw [present] at length ramp
    rw [rampOptionBytes_none_length] at length
    rw [StandsAt.field (v := 0) ramp (by decide), if_neg (by omega), if_neg (by omega), if_neg (by omega)]
    exact beq_iff_eq.2 (by omega)
  | some p =>
    rw [present] at length ramp
    rw [rampOptionBytes_some_length] at length
    have one := (standsAt_append.1 (show StandsAt _ _ (toBytes 1 1 ++ rampBytes p) from ramp)).1
    rw [one.field (by decide), if_neg (by omega), if_neg (by omega), if_neg (by omega)]
    exact beq_iff_eq.2 (by omega)

theorem readLsta_body {i : StateIdx} {r : StateRecord} (legal : r.Legal) :
    readLsta (lstaBody i r) = some (i, r) := by
  obtain ⟨hidx, htag, hchans, hduration, hnext, hpattern, hrule, hcount, hexceptions, hramp⟩ := lstaBody_stands i r
  obtain ⟨tag, amp, angle, freq, duration, rule, few, distinct, rules, ramp⟩ := legal
  have chans : readChans (lstaBody i r) = some r.chans := readChans_of_each fun c =>
    (hchans.member chanBytes_length c.val (by rw [r.chans.size]; exact c.isLt)).chan (amp c) (angle c) (freq c)
  unfold readLsta
  rw [hidx.index (by decide), chans, hduration.field (by norm_num; omega), within_self (Nat.zero_le _) duration,
    hnext.field (next_code_lt _), readNext_code, hrule.rule rule, hcount.field (by omega),
    within_self (Nat.zero_le _) few]
  simp only [Option.bind_eq_bind, Option.bind_some]
  rw [hexceptions.exceptions rules, Option.bind_some, hramp.rampOption ramp, Option.bind_some, if_pos distinct,
    htag.field (by norm_num; omega), hpattern.set (by decide), setOf_bitField]

theorem readLsta_legal {b : List Byte} {i : StateIdx} {r : StateRecord} (read : readLsta b = some (i, r)) :
    r.Legal := by
  simp only [readLsta, Option.bind_eq_bind, Option.bind_eq_some_iff, within_eq_some] at read
  obtain ⟨idx, -, chans, hchans, duration, ⟨⟨-, hduration⟩, -⟩, next, -, rule, hrule, e, ⟨⟨-, few⟩, -⟩, exceptions,
    hexceptions, ramp, hramp, read⟩ := read
  split at read
  case isFalse => cases read
  case isTrue distinct =>
    cases read
    obtain ⟨length, rules⟩ := readExceptions_legal hexceptions
    have each := fun c => readChan_range (readChans_eq_some hchans c)
    exact {
      tag := Nat.le_of_lt_succ (field_lt b 1 2)
      amp := fun c => (each c).1
      angle := fun c => (each c).2.1
      freq := fun c => (each c).2.2
      duration := hduration
      rule := readRule_legal hrule
      few := length.trans_le few
      distinct := distinct
      rules := rules
      ramp := readRampOption_legal hramp }

/-- Settles O23: each item stands at its offset and reads back, and each reader checks its item's range. -/
theorem lstaBodyReadsBack : Obligations.LstaBodyReadsBack :=
  ⟨fun _ _ legal => ⟨lstaLengthOk_body legal.few, readLsta_body legal⟩, fun _ _ _ => readLsta_legal⟩

end Sys2Proof.Machine
end

section
/-! PROOFS. The configuration of a breaker and the commitment of the sequence: the checks in their order, and
what a configuration that passes them does (R12, R14 to R16, R115 to R117). -/

namespace Sys2Proof.Machine

theorem toBytes_one (v : Nat) : toBytes 1 v = [BitVec.ofNat 8 v] := rfl

/-! ## CBRK (R115 to R117) -/

theorem otherBreaker_eq (b : BreakerId) : otherBreaker b = 1 - b := by
  revert b
  decide

section
variable {α : Type} {a b : Option α} {p q : α → Bool} {k : α}

theorem filter_or_first (here : a = some k) (holds : p k = true) : (a.filter p).or (b.filter q) = some k := by
  simp [here, Option.filter, holds]

theorem filter_eq_none (fails : ∀ j, a = some j → p j = false) : a.filter p = none := by
  cases a with
  | none => rfl
  | some j => simp [Option.filter, fails j rfl]

theorem filter_or_second (skips : ∀ j, a = some j → p j = false) (here : b = some k) (holds : q k = true) :
    (a.filter p).or (b.filter q) = some k := by
  rw [filter_eq_none skips]
  simp [here, Option.filter, holds]

theorem filter_or_none (first : ∀ j, a = some j → p j = false) (second : ∀ j, b = some j → q j = false) :
    (a.filter p).or (b.filter q) = none := by
  rw [filter_eq_none first, filter_eq_none second, Option.or_none]

end

namespace BrkConfig
variable (c other : BrkConfig)

theorem claims_iff (o : BoutId) : c.claims o = true ↔
    c.enabled = true ∧ (c.out52a = some o ∨ c.out52b = some o) := by
  simp [claims]

theorem sameInput_eq_some {k : InputId} (trip : c.trip = some k) (same : c.trip = c.close) :
    c.sameInput = some (k.val + 1) := by
  simp [sameInput, ← same, trip]

theorem sameInput_eq_none (passes : ¬ (c.trip ≠ none ∧ c.trip = c.close)) : c.sameInput = none := by
  unfold sameInput
  split
  case h_1 j k trip close =>
    rw [trip, close] at passes
    exact if_neg fun e => passes ⟨by simp, by rw [e]⟩
  case h_2 => rfl

theorem groupTaken_iff : c.groupTaken other = true ↔
    c.group ≠ none ∧ other.enabled = true ∧ other.group = c.group := by
  simp [groupTaken, Option.isSome_iff_ne_none, and_assoc]

theorem lineTaken_iff : c.lineTaken other = true ↔ c.line = true ∧ other.enabled = true ∧ other.line = true := by
  simp [lineTaken, and_assoc]

theorem outputNamed_committed {q : Sequencer} (commit : q.commit = true) : c.outputNamed q =
    ((c.out52a.filter fun o => patternNames q o).or
      (c.out52b.filter fun o => patternNames q o)).map fun o => o.val + 1 := if_pos commit

end BrkConfig

section
variable {t : Time} {tag : Byte} {body : List Byte} {s : State} {b : BreakerId} {c : BrkConfig}
  (h : LinkFree s) (editable : s.seq.st.editable = true) (length : body.length = 13)
  (read : readCbrk body = some (b, c))
include h editable length read

theorem LinkFree.exec_cbrk_conflict {code item : Nat} (fails : cbrkConflict s b c = some (code, item)) :
    exec (.cbrk t tag body) s = .next ((s.advance t).replied { kind := 0x15, tag, body }
      [0x07, BitVec.ofNat 8 code, BitVec.ofNat 8 item]) := by
  refine h.exec_answered (f := { kind := 0x15, tag, body }) rfl (by rfl) (by simp [lengthOk, length])
    (z := s.advance t) h.noRequest ?_
  change atOnce (configureBreaker body _) = _
  unfold configureBreaker
  rw [if_pos (show ((s.advance t).queued _).seq.st.editable = true from editable), read]
  dsimp only
  rw [show cbrkConflict ((s.advance t).queued _) b c = cbrkConflict s b c from rfl, fails]
  rfl

theorem LinkFree.exec_cbrk_passes (passes : cbrkConflict s b c = none) :
    exec (.cbrk t tag body) s = .next ((setBreakerConfig b c (s.advance t)).withdraw.replied
      { kind := 0x15, tag, body } [0x00]) := by
  refine h.exec_answered (f := { kind := 0x15, tag, body }) rfl (by rfl) (by simp [lengthOk, length])
    (z := (setBreakerConfig b c (s.advance t)).withdraw) h.noRequest ?_
  change atOnce (configureBreaker body _) = _
  unfold configureBreaker
  rw [if_pos (show ((s.advance t).queued _).seq.st.editable = true from editable), read]
  dsimp only
  rw [show cbrkConflict ((s.advance t).queued _) b c = cbrkConflict s b c from rfl, passes]
  rfl

end

/-- The breaker that takes a configuration: its initial state when that is enabled, its list kept (R117). -/
theorem setBreakerConfig_eq (b : BreakerId) (c : BrkConfig) (s : State) : setBreakerConfig b c s =
    { s with brk := s.brk.set b { s.brk.get b with
        cfg := c
        st := if c.enabled && c.startsOpen then .opened else .closed
        op := none } } := by
  have initial : (if c.enabled then c.initialState else .closed) =
      if c.enabled && c.startsOpen then BrkState.opened else .closed := by
    unfold BrkConfig.initialState
    cases c.enabled <;> rfl
  rw [← initial]
  rfl

/-- Settles O25: the five checks in their order. -/
theorem cbrkConfiguresOrConflicts : Obligations.CbrkConfiguresOrConflicts := by
  intro t tag body s b c h editable length read f o other fails1 fails2 fails3 otherClaims fails4a fails4b fails5a
    fails5b conflicts passes4 passes5
  have reports {code item : Nat} (fails : cbrkConflict s b c = some (code, item)) : conflicts code item :=
    h.exec_cbrk_conflict editable length read fails
  have sides : (s.brk.get (otherBreaker b)).cfg = other := by rw [otherBreaker_eq]
  have second (k : BoutId) (no : ¬ otherClaims k) : other.claims k = false :=
    Bool.eq_false_iff.2 fun claims => no ((other.claims_iff k).1 claims)
  have first (k : BoutId) (no : ¬ (c.out52b = some k ∨ otherClaims k)) :
      (c.out52b == some k || other.claims k) = false := by
    rw [not_or] at no
    simpa [second k no.2] using no.1
  have check1 (no : ¬ fails1) : c.sameInput = none := c.sameInput_eq_none no
  have check2 (no : ¬ fails2) : c.groupTaken other = false :=
    Bool.eq_false_iff.2 fun taken => no ((c.groupTaken_iff other).1 taken)
  have check3 (no : ¬ fails3) : c.lineTaken other = false :=
    Bool.eq_false_iff.2 fun taken => no ((c.lineTaken_iff other).1 taken)
  have check4 (no : passes4) : c.outputTaken other = none := by
    exact congrArg (Option.map _) (filter_or_none (fun j e => first j fun no' => no.1 j ⟨e, no'⟩)
      fun j e => second j fun no' => no.2 j ⟨e, no'⟩)
  have order (enabled : c.enabled = true) : cbrkConflict s b c =
      (c.sameInput.map fun i => (1, i)).or ((if c.groupTaken other then some (2, o.val + 1) else none).or
        ((if c.lineTaken other then some (3, o.val + 1) else none).or
          (((c.outputTaken other).map fun i => (4, i)).or ((c.outputNamed s.seq).map fun i => (5, i))))) := by
    unfold cbrkConflict
    rw [if_pos enabled, sides, otherBreaker_eq]
  refine ⟨fun enabled => ⟨fun k trip fails => reports ?_, fun no1 fails => reports ?_, fun no1 no2 fails =>
    reports ?_, fun no1 no2 no3 => ⟨fun k fails => reports ?_, fun k no fails => reports ?_, fun no4 k fails =>
    reports ?_, fun no4 k no fails => reports ?_⟩⟩, fun passes => ?_⟩
  · rw [order enabled, c.sameInput_eq_some trip fails.2]
    rfl
  · rw [order enabled, check1 no1, (c.groupTaken_iff other).2 fails]
    rfl
  · rw [order enabled, check1 no1, check2 no2, (c.lineTaken_iff other).2 fails]
    rfl
  · have taken : c.outputTaken other = some (k.val + 1) := by
      have holds : (c.out52b == some k || other.claims k) = true := by
        rcases fails.2 with same | claims
        · simp [same]
        · simp [(other.claims_iff k).2 claims]
      exact congrArg (Option.map _) (filter_or_first fails.1 holds)
    rw [order enabled, check1 no1, check2 no2, check3 no3, taken]
    rfl
  · have taken : c.outputTaken other = some (k.val + 1) :=
      congrArg (Option.map _) (filter_or_second (fun j e => first j fun no' => no j ⟨e, no'⟩) fails.1
        ((other.claims_iff k).2 fails.2))
    rw [order enabled, check1 no1, check2 no2, check3 no3, taken]
    rfl
  · have named : c.outputNamed s.seq = some (k.val + 1) :=
      (c.outputNamed_committed fails.2.1).trans
        (congrArg (Option.map _) (filter_or_first fails.1 fails.2.2))
    rw [order enabled, check1 no1, check2 no2, check3 no3, check4 no4, named]
    rfl
  · have named : c.outputNamed s.seq = some (k.val + 1) :=
      (c.outputNamed_committed fails.2.1).trans (congrArg (Option.map _) (filter_or_second
        (fun j e => Bool.eq_false_iff.2 fun names => no j ⟨e, fails.2.1, names⟩) fails.1 fails.2.2))
    rw [order enabled, check1 no1, check2 no2, check3 no3, check4 no4, named]
    rfl
  · refine (h.exec_cbrk_passes editable length read ?_).trans
      (congrArg (fun u : State => Host.Outcome.next (u.withdraw.replied f [0x00])) (setBreakerConfig_eq b c _))
    rcases passes with disabled | ⟨no1, no2, no3, no4, no5⟩
    · exact if_neg (by simp [disabled])
    · by_cases enabled : c.enabled = true
      case neg => exact if_neg enabled
      have named : c.outputNamed s.seq = none := by
        by_cases commit : s.seq.commit = true
        · exact (c.outputNamed_committed commit).trans (congrArg (Option.map _) (filter_or_none
            (fun j e => Bool.eq_false_iff.2 fun names => no5.1 j ⟨e, commit, names⟩)
            fun j e => Bool.eq_false_iff.2 fun names => no5.2 j ⟨e, commit, names⟩))
        · exact if_neg commit
      rw [order enabled, check1 no1, check2 no2, check3 no3, check4 no4, named]
      rfl

/-! ## CMIT (R12, R14 to R16) -/

/-- The first of the indexed members that meets a condition. -/
theorem find_filterMap_first {α : Type} {n : Nat} {g : Fin n → Option α} {p : α → Bool} {i : Fin n} {x : α}
    (here : g i = some x) (holds : p x = true) (first : ∀ j < i, ∀ y, g j = some y → p y = false) :
    ((List.finRange n).filterMap g).find? p = some x := by
  have found : (List.finRange n).find? (fun j => (g j).any p) = some i := by
    refine List.find?_eq_some_iff_getElem.2 ⟨by simp [here, holds], i.val, by simp, by simp, fun j below => ?_⟩
    cases e : g ⟨j, by omega⟩ with
    | none => simp [e]
    | some y => simp [e, first ⟨j, by omega⟩ below y e]
  rw [List.find?_filterMap, found]
  exact here

theorem find_filterMap_none {α : Type} {n : Nat} {g : Fin n → Option α} {p : α → Bool}
    (fails : ∀ j y, g j = some y → p y = false) : ((List.finRange n).filterMap g).find? p = none := by
  refine List.find?_eq_none.2 fun x hx => ?_
  obtain ⟨j, -, e⟩ := List.mem_filterMap.1 hx
  simp [fails j x e]

theorem flatMap_filterMap {α β γ : Type} (g : α → Option β) (k : β → List γ) (l : List α) :
    (l.filterMap g).flatMap k = l.flatMap fun a => ((g a).map k).getD [] := by
  induction l with
  | nil => rfl
  | cons a l ih =>
    cases e : g a with
    | none => simp [e, ih]
    | some b => simp [e, ih]

/-- An enabled trigger entry with its index. -/
def enabledAt (trg : Bank TrigSlot 32) (i : TrigIdx) : Option (TrigIdx × TrigEntry) :=
  match (trg.get i).entry with
  | some e => if e.enabled then some (i, e) else none
  | none => none

theorem enabledEntries_eq (trg : Bank TrigSlot 32) :
    enabledEntries trg = (List.finRange 32).filterMap (enabledAt trg) := rfl

theorem enabledAt_eq_some {trg : Bank TrigSlot 32} {i : TrigIdx} {p : TrigIdx × TrigEntry} :
    enabledAt trg i = some p ↔ (trg.get i).entry = some p.2 ∧ p.2.enabled = true ∧ p.1 = i := by
  unfold enabledAt
  cases (trg.get i).entry with
  | none => simp
  | some e =>
    obtain ⟨j, e'⟩ := p
    cases enabled : e.enabled <;> simp [enabled] <;> grind

theorem StateRecord.clashes_iff (r : StateRecord) (brk : Bank Breaker 2) : r.clashes brk = true ↔
    ∃ o b, r.pattern.get o = true ∧ (brk.get b).cfg.claims o = true := by
  simp only [StateRecord.clashes, List.any_eq_true, List.mem_finRange, true_and, Bool.and_eq_true]
  exact exists_congr fun o => (and_congr_right fun _ => List.any_eq_true.symm.trans Bank.any_items).trans
    exists_and_left.symm

theorem TrigEntry.mem_timers (e : TrigEntry) (m : TimerId) : m ∈ e.timers ↔
    e.event = .timerStop m ∨ e.event = .timerTimeout m ∨ e.action = .startTimer m ∨ e.action = .stopTimer m := by
  obtain ⟨_, event, _, _, action⟩ := e
  have events : m ∈ (match event with
      | .timerStop m => [m]
      | .timerTimeout m => [m]
      | _ => []) ↔ event = .timerStop m ∨ event = .timerTimeout m := by
    cases event <;> simp [eq_comm]
  have actions : m ∈ (match action with
      | .startTimer m => [m]
      | .stopTimer m => [m]
      | _ => []) ↔ action = .startTimer m ∨ action = .stopTimer m := by
    cases action <;> simp [eq_comm]
  exact List.mem_append.trans ((or_congr events actions).trans or_assoc)

theorem TrigEntry.mem_breakers (e : TrigEntry) (b : BreakerId) : b ∈ e.breakers ↔
    e.event = .breakerOpen b ∨ e.event = .breakerClosed b ∨ e.action = .trip b ∨ e.action = .close b := by
  obtain ⟨_, event, _, _, action⟩ := e
  have events : b ∈ (match event with
      | .breakerOpen b => [b]
      | .breakerClosed b => [b]
      | _ => []) ↔ event = .breakerOpen b ∨ event = .breakerClosed b := by
    cases event <;> simp [eq_comm]
  have actions : b ∈ (match action with
      | .trip b => [b]
      | .close b => [b]
      | _ => []) ↔ action = .trip b ∨ action = .close b := by
    cases action <;> simp [eq_comm]
  exact List.mem_append.trans ((or_congr events actions).trans or_assoc)

theorem TrigEntry.dangles_iff (e : TrigEntry) (s : State) : e.dangles s = true ↔
    (∃ m, (s.tmr.get m).cfg.enabled = false ∧ m ∈ e.timers) ∨
      ∃ b, (s.brk.get b).cfg.enabled = false ∧ b ∈ e.breakers := by
  simp [TrigEntry.dangles, and_comm]

theorem Grade.unresolved_iff (g : Grade) (s : State) : g.unresolved s = true ↔
    (s.tmr.get g.timer).cfg.enabled = false ∨ (s.tmr.get g.timer).cfg.mode ≠ .interval ∨
      ∃ c, g.char = .curve c ∧ s.rep.curves.get c = none := by
  unfold Grade.unresolved
  cases g.char <;> simp [or_assoc]

theorem Sequencer.unloaded_iff (q : Sequencer) (i : StateIdx) : q.unloaded i = true ↔ q.table.get i = none := by
  simp [Sequencer.unloaded]

section
variable {t : Time} {tag : Byte} {body : List Byte} {s : State} {header : Header}
  (h : LinkFree s) (editable : s.seq.st.editable = true) (length : body.length = 6)
  (read : readCmit body = some header)
include h editable length read

theorem LinkFree.exec_cmit_conflict {code item : Nat} (fails : cmitConflict s = some (code, item)) :
    exec (.cmit t tag body) s = .next ((s.advance t).withdraw.replied { kind := 0x12, tag, body }
      [0x07, BitVec.ofNat 8 code, BitVec.ofNat 8 item]) := by
  refine h.exec_answered (f := { kind := 0x12, tag, body }) rfl (by rfl) (by simp [lengthOk, length])
    (z := (s.advance t).withdraw) h.noRequest ?_
  change atOnce (commitSequence body _) = _
  unfold commitSequence
  rw [if_pos (show ((s.advance t).queued _).seq.st.editable = true from editable), read]
  dsimp only
  rw [show cmitConflict ((s.advance t).queued _) = cmitConflict s from rfl, fails]
  rfl

theorem LinkFree.exec_cmit_passes (passes : cmitConflict s = none) :
    exec (.cmit t tag body) s = .next (((s.advance t).commit header).replied { kind := 0x12, tag, body }
      [0x00]) := by
  refine h.exec_answered (f := { kind := 0x12, tag, body }) rfl (by rfl) (by simp [lengthOk, length])
    (z := (s.advance t).commit header) h.noRequest ?_
  change atOnce (commitSequence body _) = _
  unfold commitSequence
  rw [if_pos (show ((s.advance t).queued _).seq.st.editable = true from editable), read]
  dsimp only
  rw [show cmitConflict ((s.advance t).queued _) = cmitConflict s from rfl, passes]
  rfl

end

/-- The references of the loaded records and of the enabled entries, record after record and entry after
entry (R15). -/
theorem references_eq (s : State) : references s =
    ((List.finRange 24).flatMap fun i => match s.seq.table.get i with
      | some r => (if r.duration = 0 then [] else r.next.toList) ++ r.exceptions.map fun e => e.source
      | none => []) ++
    (List.finRange 32).flatMap fun i => match (s.trg.get i).entry with
      | some e => if e.enabled then e.filter.toList ++ (match e.action with
          | .goto j => [j]
          | _ => []) else []
      | none => [] := by
  unfold references
  rw [enabledEntries_eq, loadedRecords, flatMap_filterMap, flatMap_filterMap]
  congr 2 <;> funext i
  · cases s.seq.table.get i <;> rfl
  · unfold enabledAt
    cases (s.trg.get i).entry with
    | none => rfl
    | some e =>
      cases enabled : e.enabled
      · simp [enabled]
      · simp only [enabled, if_true]; rfl

/-- Settles O26: the six checks in their order. -/
theorem cmitCommitsOrConflicts : Obligations.CmitCommitsOrConflicts := by
  intro t tag body s header h editable length read f record recordRefs entryRefs refs clashes dangles unresolved
    passes1 passes2 passes3 passes4 passes5 passes6 conflicts
  have reports {code item : Nat} (fails : cmitConflict s = some (code, item)) : conflicts code item :=
    h.exec_cmit_conflict editable length read fails
  have inOrder : references s = refs := references_eq s
  have recordAt {i : StateIdx} {p : StateIdx × StateRecord}
      (e : (s.seq.table.get i).map (fun r => (i, r)) = some p) : record i p.2 ∧ p.1 = i := by
    obtain ⟨r, hr, e⟩ := Option.map_eq_some_iff.1 e
    cases e
    exact ⟨hr, rfl⟩
  have gradeAt {i : GradeId} {p : GradeId × Grade}
      (e : (s.rep.grades.get i).map (fun g => (i, g)) = some p) : s.rep.grades.get i = some p.2 ∧ p.1 = i := by
    obtain ⟨g, hg, e⟩ := Option.map_eq_some_iff.1 e
    cases e
    exact ⟨hg, rfl⟩
  have clashes_of {i : StateIdx} {r : StateRecord} (hr : record i r) (e : r.clashes s.brk = true) :
      clashes i := by
    obtain ⟨o, b, names, claims⟩ := (r.clashes_iff s.brk).1 e
    obtain ⟨enabled, contact⟩ := (BrkConfig.claims_iff _ o).1 claims
    exact ⟨r, o, b, hr, names, enabled, contact⟩
  have dangles_of {i : TrigIdx} {e : TrigEntry} (he : (s.trg.get i).entry = some e) (enabled : e.enabled = true)
      (open_ : e.dangles s = true) : dangles i := by
    refine ⟨e, he, enabled, ?_⟩
    simpa only [TrigEntry.mem_timers, TrigEntry.mem_breakers] using (e.dangles_iff s).1 open_
  have unresolved_of {i : GradeId} {g : Grade} (hg : s.rep.grades.get i = some g)
      (e : g.unresolved s = true) : unresolved i := ⟨g, hg, (g.unresolved_iff s).1 e⟩
  have check1 (ok : passes1) : s.seq.unloaded 0 = false :=
    Bool.eq_false_iff.2 fun e => ok ((s.seq.unloaded_iff 0).1 e)
  have check2 (ok : passes2) : (references s).find? s.seq.unloaded = none :=
    List.find?_eq_none.2 fun j hj e => ok j (inOrder ▸ hj) ((s.seq.unloaded_iff j).1 e)
  have mode {r : StateRecord} (hr : record 0 r) : (s.seq.record 0).rule.mode = r.rule.mode := by
    simp only [Sequencer.record, show s.seq.table.get 0 = some r from hr, Option.getD_some]
  have check3 (loaded : passes1) (ok : passes3) : (s.seq.record 0).rule.mode = .immediate := by
    obtain ⟨r, hr⟩ := Option.ne_none_iff_exists'.1 loaded
    rw [mode hr, ok r hr]
  have check4 (ok : passes4) : (loadedRecords s.seq).find? (fun p => p.2.clashes s.brk) = none :=
    find_filterMap_none fun j p e => Bool.eq_false_iff.2 fun c => ok j (clashes_of (recordAt e).1 c)
  have check5 (ok : passes5) : (enabledEntries s.trg).find? (fun p => p.2.dangles s) = none :=
    find_filterMap_none (g := enabledAt s.trg) fun j p e => Bool.eq_false_iff.2 fun d => by
      obtain ⟨entry, enabled, -⟩ := enabledAt_eq_some.1 e
      exact ok j (dangles_of entry enabled d)
  have check6 (ok : passes6) : (filledGrades s).find? (fun p => p.2.unresolved s) = none :=
    find_filterMap_none fun j p e => Bool.eq_false_iff.2 fun u => ok j (unresolved_of (gradeAt e).1 u)
  refine ⟨fun ⟨ok1, ok2, ok3, ok4, ok5, ok6⟩ => h.exec_cmit_passes editable length read ?_, fun fails => reports ?_,
    fun before j behind ok1 split loaded absent => reports ?_, fun ok1 ok2 fails => reports ?_,
    fun ok1 ok2 ok3 i fails first => reports ?_, fun ok1 ok2 ok3 ok4 i fails first => reports ?_,
    fun ok1 ok2 ok3 ok4 ok5 i fails first => reports ?_⟩
  · unfold cmitConflict
    rw [check1 ok1, check2 ok2, if_pos (check3 ok1 ok3), check4 ok4, check5 ok5, check6 ok6]
    rfl
  · unfold cmitConflict
    rw [(s.seq.unloaded_iff 0).2 (not_not.1 fails)]
    rfl
  · have found : (references s).find? s.seq.unloaded = some j := by
      refine List.find?_eq_some_iff_append.2 ⟨(s.seq.unloaded_iff j).2 absent, before, behind, inOrder.trans split,
        fun i hi => ?_⟩
      simpa [Sequencer.unloaded, Option.isNone_eq_false_iff, Option.isSome_iff_ne_none] using loaded i hi
    unfold cmitConflict
    rw [check1 ok1, found]
    rfl
  · obtain ⟨r, hr, other⟩ : ∃ r, record 0 r ∧ r.rule.mode ≠ .immediate := by simpa [passes3] using fails
    have notImmediate : (s.seq.record 0).rule.mode ≠ .immediate := by rwa [mode hr]
    unfold cmitConflict
    rw [check1 ok1, check2 ok2, if_neg notImmediate]
    rfl
  · obtain ⟨r, o, b, hr, names, enabled, contact⟩ := fails
    have found : (loadedRecords s.seq).find? (fun p => p.2.clashes s.brk) = some (i, r) :=
      find_filterMap_first (i := i) (by rw [show s.seq.table.get i = some r from hr]; rfl)
        ((r.clashes_iff s.brk).2 ⟨o, b, names, (BrkConfig.claims_iff _ o).2 ⟨enabled, contact⟩⟩)
        fun j below p e => Bool.eq_false_iff.2 fun c => first j below (clashes_of (recordAt e).1 c)
    unfold cmitConflict
    rw [check1 ok1, check2 ok2, if_pos (check3 ok1 ok3), found]
    rfl
  · obtain ⟨e, entry, enabled, open_⟩ := fails
    have found : (enabledEntries s.trg).find? (fun p => p.2.dangles s) = some (i, e) :=
      find_filterMap_first (g := enabledAt s.trg) (i := i) (enabledAt_eq_some.2 ⟨entry, enabled, rfl⟩)
        ((e.dangles_iff s).2 (by simpa only [TrigEntry.mem_timers, TrigEntry.mem_breakers] using open_))
        fun j below p hp => Bool.eq_false_iff.2 fun d => by
          obtain ⟨entry', enabled', -⟩ := enabledAt_eq_some.1 hp
          exact first j below (dangles_of entry' enabled' d)
    unfold cmitConflict
    rw [check1 ok1, check2 ok2, if_pos (check3 ok1 ok3), check4 ok4, found]
    rfl
  · obtain ⟨g, hg, open_⟩ := fails
    have found : (filledGrades s).find? (fun p => p.2.unresolved s) = some (i, g) :=
      find_filterMap_first (i := i) (by rw [hg]; rfl) ((g.unresolved_iff s).2 open_)
        fun j below p e => Bool.eq_false_iff.2 fun u => first j below (unresolved_of (gradeAt e).1 u)
    unfold cmitConflict
    rw [check1 ok1, check2 ok2, if_pos (check3 ok1 ok3), check4 ok4, check5 ok5, found]
    rfl

end Sys2Proof.Machine
end

section
/-! PROOFS. The outlet map and what it derives, the configuration of the inputs, and the beginning of a
learning (R47, R48, R61 to R65, R68, R78). -/

namespace Sys2Proof.Machine

/-! ## SMAP and the settle of the outlets (R64, R65) -/

namespace Synth
variable {m : OutletMap} {y : Synth} (now : Time)

theorem setMap_rotation (still : y.settle = none) (same : y.map.arrangement = m.arrangement) :
    y.setMap m now = { y with map := m } := if_pos (by simp [still, same])

theorem setMap_settles (moves : y.settle ≠ none ∨ y.map.arrangement ≠ m.arrangement) :
    y.setMap m now = { y with map := m, contactors := .fill 10 false, settle := some (after now 50000) } := by
  refine if_neg fun still => ?_
  simp only [Bool.and_eq_true, Option.isNone_iff_eq_none, beq_iff_eq] at still
  rcases moves with settling | turned
  · exact settling still.1
  · exact turned still.2

end Synth

theorem LinkFree.exec_smap {t : Time} {tag : Byte} {body : List Byte} {s : State} {m : OutletMap}
    (h : LinkFree s) (editable : s.seq.st.editable = true) (length : body.length = 2)
    (read : readSmap body = some m) : exec (.smap t tag body) s = .next (({ s.advance t with
      syn := deriveOutlets false s.cal.working (s.syn.setMap m (s.advance t).now) } : State).replied
        { kind := 0x20, tag, body } [0x00]) := by
  refine h.exec_answered (f := { kind := 0x20, tag, body }) rfl (by rfl) (by simp [lengthOk, length])
    (z := { s.advance t with syn := deriveOutlets false s.cal.working (s.syn.setMap m (s.advance t).now) })
    h.noRequest ?_
  change atOnce (setMap body _) = _
  unfold setMap
  rw [if_pos (show ((s.advance t).queued _).seq.st.editable = true from editable), read]
  rfl

theorem OutletMap.connects_eq (m : OutletMap) : m.connects = decide (m.arrangement ≠ .disconnected) := by
  unfold OutletMap.connects
  cases m.arrangement <;> decide

/-- Settles O27: the two rows of SMAP, and the end of the settle. -/
theorem smapSettlesTheOutlets : Obligations.SmapSettlesTheOutlets := by
  refine ⟨fun t tag body s m h editable length read => ?_, fun s d up settling => ?_⟩
  · dsimp only
    rw [h.exec_smap editable length read]
    exact ⟨fun ⟨still, same⟩ => by rw [Synth.setMap_rotation _ still same],
      fun moves => by rw [Synth.setMap_settles _ moves]⟩
  · have ends : settleEnd s = ({ s.advance d with
        syn := { s.syn with settle := none }.closeContactors } : State).raise .outletReady := by
      unfold settleEnd
      rw [settling]
      rfl
    refine (congrArg Host.Outcome.next ((whenUp_up up).trans ends)).trans ?_
    rw [Synth.closeContactors, ← OutletMap.connects_eq]

/-! ## The routes of the map (R47, R61, R62) -/

theorem member_eq {reversed : Bool} {p : Nat} (place : p < 3) :
    member reversed p = if reversed then (if p = 1 then 2 else if p = 2 then 1 else p) else p := by
  cases reversed with
  | false => rfl
  | true =>
    obtain rfl | rfl | rfl : p = 0 ∨ p = 1 ∨ p = 2 := by omega
    · rfl
    · rfl
    · rfl

theorem member_lt {reversed : Bool} {p : Nat} (place : p < 3) : member reversed p < 3 := by
  rw [member_eq place]
  split
  · split
    · decide
    · split <;> omega
  · exact place

section
variable {m : OutletMap} {o : Outlet}

theorem routeOf_disconnected (open_ : m.arrangement = .disconnected) : routeOf m o = none :=
  if_pos (by simp [open_])

variable (connected : m.arrangement ≠ .disconnected)
include connected

theorem routeOf_voltage (voltage : o.val < 3) :
    routeOf m o = some (Fin.ofNat 10 (member m.reversed o.val), .whole) := by
  unfold routeOf
  rw [if_neg (by simpa using connected), if_pos voltage]

theorem routeOf_neutral (neutral : o.val = 3) : routeOf m o = some (3, .whole) := by
  unfold routeOf
  rw [if_neg (by simpa using connected), if_neg (by omega), if_pos neutral]

theorem routeOf_first {p : Nat} (place : p < 3) (first : o.val = 4 + p) : routeOf m o =
    some (if m.arrangement = .swapped then channelJ (member m.reversed p) else channelI (member m.reversed p),
      if m.arrangement = .parallel then .first else .whole) := by
  unfold routeOf
  rw [if_neg (by simpa using connected), if_neg (by omega), if_neg (by omega), if_pos (by omega),
    show (o.val - 4) % 3 = p by omega]
  cases e : m.arrangement with
  | disconnected => exact absurd e connected
  | standard => rfl
  | swapped => rfl
  | parallel => rfl

theorem routeOf_second {p : Nat} (place : p < 3) (second : o.val = 7 + p) : routeOf m o =
    some (if m.arrangement = .standard then channelJ (member m.reversed p) else channelI (member m.reversed p),
      if m.arrangement = .parallel then .second else .whole) := by
  unfold routeOf
  rw [if_neg (by simpa using connected), if_neg (by omega), if_neg (by omega), if_neg (by omega),
    show (o.val - 4) % 3 = p by omega]
  cases e : m.arrangement with
  | disconnected => exact absurd e connected
  | standard => rfl
  | swapped => rfl
  | parallel => rfl

end

/-- Half of an amplitude and the rest of it, the first share taking the odd unit (R47). -/
theorem shares (a : Nat) : Share.whole.of a = a ∧ Share.first.of a + Share.second.of a = a ∧
    Share.second.of a ≤ Share.first.of a ∧ Share.first.of a ≤ Share.second.of a + 1 := by
  simp only [Share.of, true_and]
  omega

theorem roundHalfUp_gain (n : Nat) : roundHalfUp n 65536 = (2 * n + 65536) / 131072 := rfl

/-- Settles O28: the four kinds of outlet, and the amplitudes that are derived. -/
theorem theMapDerivesTheOutlets : Obligations.TheMapDerivesTheOutlets := by
  refine ⟨fun m o => ⟨routeOf_disconnected, fun connected => ?_, shares⟩, fun running cal y o => ?_⟩
  · intro turned
    have turn {p : Nat} (place : p < 3) : turned p = member m.reversed p := (member_eq place).symm
    have numberI {p : Nat} (place : p < 3) : (channelI (member m.reversed p)).val = 4 + member m.reversed p :=
      Nat.mod_eq_of_lt (by have := member_lt (reversed := m.reversed) place; omega)
    have numberJ {p : Nat} (place : p < 3) : (channelJ (member m.reversed p)).val = 7 + member m.reversed p :=
      Nat.mod_eq_of_lt (by have := member_lt (reversed := m.reversed) place; omega)
    have range := o.isLt
    obtain voltage | neutral | ⟨p, place, first⟩ | ⟨p, place, second⟩ : o.val < 3 ∨ o.val = 3 ∨
        (∃ p < 3, o.val = 4 + p) ∨ ∃ p < 3, o.val = 7 + p := by
      rcases Nat.lt_or_ge o.val 3 with low | high
      · exact .inl low
      · rcases Nat.lt_or_ge o.val 7 with middle | top
        · rcases Nat.eq_or_lt_of_le high with three | above
          · exact .inr (.inl three.symm)
          · exact .inr (.inr (.inl ⟨o.val - 4, by omega, by omega⟩))
        · exact .inr (.inr (.inr ⟨o.val - 7, by omega, by omega⟩))
    · refine ⟨_, _, routeOf_voltage connected voltage, fun _ => ?_, fun e => by omega, fun p _ e => by omega,
        fun p _ e => by omega, fun _ => rfl, fun e => by omega, fun e => by omega⟩
      rw [turn voltage]
      exact Nat.mod_eq_of_lt (by have := member_lt (reversed := m.reversed) voltage; omega)
    · exact ⟨_, _, routeOf_neutral connected neutral, fun e => by omega, fun _ => rfl, fun p _ e => by omega,
        fun p _ e => by omega, fun _ => rfl, fun e => by omega, fun e => by omega⟩
    · refine ⟨_, _, routeOf_first connected place first, fun e => by omega, fun e => by omega, fun q _ e => ?_,
        fun q _ e => by omega, fun e => ?_, fun _ _ e => if_pos e, fun e => by omega⟩
      · obtain rfl : q = p := by omega
        rw [turn place]
        split
        · exact numberJ place
        · exact numberI place
      · rcases e with low | whole
        · omega
        · exact if_neg whole
    · refine ⟨_, _, routeOf_second connected place second, fun e => by omega, fun e => by omega,
        fun q _ e => by omega, fun q _ e => ?_, fun e => ?_, fun e => by omega, fun _ e => if_pos e⟩
      · obtain rfl : q = p := by omega
        rw [turn place]
        split
        · exact numberJ place
        · exact numberI place
      · rcases e with low | whole
        · omega
        · exact if_neg whole
  · intro raw amp peak
    have amplitude : outletAmp y o = amp := by
      unfold outletAmp
      by_cases current : 4 ≤ o.val
      · rw [if_pos current]
        exact (if_neg (by omega)).symm
      · rw [if_neg current]
        exact (if_pos (by omega)).symm
    have code : rawPeak (cal.get o).gain (outletAmp y o) = peak := by
      rw [amplitude]
      exact roundHalfUp_gain _
    refine ⟨(Bank.get_ofFn ..).trans amplitude, (Bank.get_ofFn ..).trans (by rw [code]), ?_, rfl, rfl, rfl, rfl,
      rfl⟩
    rw [deriveOutlets, Bank.get_ofFn, code]
    simp only [Bool.or_eq_true, Bool.and_eq_true, decide_eq_true_eq]
    rfl

/-! ## CINP (R68) -/

/-- Settles O29: the two states of the input. -/
theorem cinpDerivesAfresh : Obligations.CinpDerivesAfresh := by
  intro t tag body s k c h editable length read f i level derived
  have known : messageCodes.contains f.kind = true := by rfl
  have lengthy : lengthOk f.kind f.body = true := by simp [lengthOk, f, length]
  have configures : configureInput body ((s.advance t).queued f) =
      if i.learn.isSome then refused .wrongState ((s.advance t).queued f)
      else done { (s.advance t).queued f with inp := s.inp.modify k (Input.derive c) } := by
    unfold configureInput
    rw [if_pos (show ((s.advance t).queued f).seq.st.editable = true from editable), read]
    rfl
  refine ⟨fun idle => ?_, fun learning => ?_⟩
  · refine h.exec_answered (f := f) rfl known lengthy
      (z := { s.advance t with inp := s.inp.modify k (Input.derive c) }) h.noRequest ?_
    change atOnce (configureInput body _) = _
    rw [configures, if_neg (by simp [idle])]
    rfl
  · refine h.exec_answered (f := f) rfl known lengthy (z := s.advance t) h.noRequest ?_
    change atOnce (configureInput body _) = _
    rw [configures, if_pos (Option.isSome_iff_ne_none.2 learning)]
    rfl

/-! ## LRNT (R78) -/

/-- An input that begins a learning. -/
def Input.learns (m : Method) (i : Input) : Input :=
  { i with learn := some { method := m, readings := 0, sum := 0 } }

theorem Input.cannotLearn_iff (i : Input) : i.cannotLearn = true ↔ i.cfg.wet = false ∨ i.learn ≠ none := by
  simp [Input.cannotLearn, Option.isSome_iff_ne_none]

/-- LRNT with operands that are read, on the state whose free value it has used. -/
theorem LinkFree.exec_lrnt {t : Time} {tag : Byte} {body : List Byte} {s : State} {k : InputId} {m : Method}
    (h : LinkFree s) (editable : s.seq.st.editable = true) (length : body.length = 5 ∨ body.length = 6)
    (read : readLrnt body (Config.missingSplitByte s.freeCount) = some (k, m)) :
    let f : Frame := { kind := 0x22, tag, body }
    let u := useFree body (s.advance t)
    ((s.inp.get k).cannotLearn = false → exec (.lrnt t tag body) s =
      .next ({ u with inp := s.inp.modify k (Input.learns m) }.replied f [0x00])) ∧
    ((s.inp.get k).cannotLearn = true → exec (.lrnt t tag body) s = .next (u.replied f [0x05])) := by
  intro f u
  have known : messageCodes.contains f.kind = true := by rfl
  have lengthy : lengthOk f.kind f.body = true := by simpa [lengthOk, f] using length
  have inputs : u.inp = s.inp := by
    unfold u useFree
    split <;> rfl
  have queue : u.link.queue = [] := by
    unfold u useFree
    split <;> exact h.noRequest
  have blind : useFree body ((s.advance t).queued f) = u.queued f := by
    unfold u useFree
    split <;> rfl
  have learns : learnThreshold body ((s.advance t).queued f) =
      if (s.inp.get k).cannotLearn then refused .wrongState (u.queued f)
      else done { u.queued f with inp := s.inp.modify k (Input.learns m) } := by
    unfold learnThreshold
    rw [if_pos (show ((s.advance t).queued f).seq.st.editable = true from editable), blind]
    dsimp only
    rw [show ((s.advance t).queued f).freeCount = s.freeCount from rfl, read]
    dsimp only
    rw [show (u.queued f).inp = s.inp from inputs]
    rfl
  refine ⟨fun able => ?_, fun unable => ?_⟩
  · refine h.exec_answered (f := f) rfl known lengthy
      (z := { u with inp := s.inp.modify k (Input.learns m) }) queue ?_
    change atOnce (learnThreshold body _) = _
    rw [learns, able]
    rfl
  · refine h.exec_answered (f := f) rfl known lengthy (z := u) queue ?_
    change atOnce (learnThreshold body _) = _
    rw [learns, unable]
    rfl

theorem readLrnt_split {body : List Byte} {free : Byte} {k : InputId} {low high split : Nat}
    (read : readLrnt body free = some (k, .fast low high split)) : split = splitLevel body free := by
  simp only [readLrnt, Option.bind_eq_bind, Option.bind_eq_some_iff] at read
  obtain ⟨k', -, read⟩ := read
  split at read
  · simp only [Option.bind_eq_some_iff, within_eq_some] at read
    obtain ⟨lowCode, -, highCode, -, level, ⟨-, same⟩, e⟩ := read
    cases e
    exact same.symm
  · simp only [Option.bind_eq_some_iff] at read
    obtain ⟨upper, -, trim, -, e⟩ := read
    cases e
  · cases read

/-- Settles O30: the two lengths, with the free byte of the shorter. -/
theorem lrntBeginsALearning : Obligations.LrntBeginsALearning := by
  intro t tag body s h f i learns
  have either (k : InputId) : (i k).cannotLearn = false ↔ (i k).cfg.wet = true ∧ (i k).learn = none := by
    rw [Bool.eq_false_iff, Ne, Input.cannotLearn_iff, not_or, Bool.not_eq_false, not_not]
  have answers {k : InputId} {m : Method} (editable : s.seq.st.editable = true)
      (length : body.length = 5 ∨ body.length = 6)
      (read : readLrnt body (Config.missingSplitByte s.freeCount) = some (k, m)) :
      learns k m (useFree body (s.advance t)) := by
    obtain ⟨able, unable⟩ := h.exec_lrnt (tag := tag) (t := t) editable length read
    exact ⟨fun wet idle => able ((either k).2 ⟨wet, idle⟩),
      fun cannot => unable ((Input.cannotLearn_iff _).2 cannot)⟩
  refine ⟨fun notFive notSix => ?_, fun k m free editable six read => ?_, fun k m editable five read => ?_,
    fun free k low high split read => ?_⟩
  · exact malformedRequestsAreRefused.2 (.lrnt t tag body) t f s rfl h (by rfl)
      (by simp [lengthOk, f, notFive, notSix])
  · have := answers editable (.inr six) ((readLrnt_six six _ free).trans read)
    rwa [useFree_other (by omega)] at this
  · have := answers editable (.inl five) read
    rwa [useFree_five five] at this
  · rw [readLrnt_split read, splitLevel]
    exact ⟨fun six => if_neg (by omega), fun five => if_pos five⟩

end Sys2Proof.Machine
end

section
/-! PROOFS. The binary inputs: the outcome of a learning, the raw transitions, the qualified edges and the
chatter windows (R69 to R81). -/

namespace Sys2Proof.Machine

theorem Bank.set_set {α : Type} {n : Nat} (b : Bank α n) (i : Fin n) (x y : α) :
    (b.set i x).set i y = b.set i y := by
  ext j
  by_cases here : i = j <;> simp [Bank.get_set, here]

/-! ## Raw transitions (R70 to R72, R74, R75) -/

namespace Input
variable (inShot next : Bool) (r : Time) {i : Input}

theorem reversed_eq (i : Input) : i.reversed next = { i with
    raw := !i.raw
    count := if next then i.count else min (i.count + 1) 65535
    early := if next then min (i.early + 1) 65535 else i.early } := by
  cases next <;> rfl

theorem transition_bounces (chatter : i.chatter = true) :
    i.transition inShot next r = (i.reversed next).bounce inShot 1 :=
  if_pos ((i.reversed_chatter next).trans chatter)

variable (normal : i.chatter = false)
include normal

theorem transition_enters (limited : 2 ≤ i.cfg.limit) (exceeds : i.cfg.limit < (i.reversed next).windowCount next) :
    i.transition inShot next r = (i.reversed next).enterChatter inShot := by
  have counted : (i.reversed next).exceeds next = true := by
    have cfg : (i.reversed next).cfg = i.cfg := by rw [reversed_eq]
    rw [Input.exceeds, cfg, Bool.and_eq_true]
    exact ⟨decide_eq_true limited, decide_eq_true exceeds⟩
  have quiet : ¬ (i.reversed next).chatter = true := by simp [reversed_chatter, normal]
  exact (if_neg quiet).trans (if_pos counted)

theorem transition_debounces (within : i.cfg.limit < 2 ∨ (i.reversed next).windowCount next ≤ i.cfg.limit) :
    i.transition inShot next r = (i.reversed next).debounce inShot r := by
  have uncounted : ¬ (i.reversed next).exceeds next = true := by
    have cfg : (i.reversed next).cfg = i.cfg := by rw [reversed_eq]
    rw [Input.exceeds, cfg, Bool.and_eq_true, decide_eq_true_eq, decide_eq_true_eq]
    omega
  have quiet : ¬ (i.reversed next).chatter = true := by simp [reversed_chatter, normal]
  exact (if_neg quiet).trans (if_neg uncounted)

end Input

/-- A raw transition of an input that has just taken the value `i`. -/
theorem rawTransition_set (k : InputId) (r : Time) (s : State) (i : Input) :
    rawTransition k r { s with inp := s.inp.set k i } =
      let i' := i.transition s.seq.st.inShot (atOrAfter s.clock.nextChatter r) r
      let t : State := { s with inp := s.inp.set k i' }
      if i'.chatter && !i.chatter then t.raise .chatter else t := by
  unfold rawTransition
  simp only [Bank.get_set_self, Bank.set_set]

theorem terminalChange_eq (k : InputId) (term : Terminal) (s : State) :
    let i : Input := { s.inp.get k with term }
    let u : State := { s with inp := s.inp.set k i }
    terminalChange k term s = if i.compare = i.raw then u else rawTransition k s.now u := by
  intro i u
  unfold terminalChange
  by_cases same : i.compare = i.raw
  · rw [if_pos same]
    exact if_neg (by simpa using same)
  · rw [if_neg same]
    exact if_pos (by simpa using same)

/-- Settles O32: the level, then the chatter window, then the debounce window. -/
theorem terminalsMoveTheInput : Obligations.TerminalsMoveTheInput := by
  intro t k term s up u inShot i level next j n leaves bounced opening
  have moves (still : level ≠ i.raw) (x : Input) (turns : i.transition inShot next u.now = x) :
      exec (.rawTransition t k term) s = .next (if x.chatter && !i.chatter then
        State.raise { u with inp := s.inp.set k x } .chatter else { u with inp := s.inp.set k x }) := by
    refine congrArg Host.Outcome.next ((whenUp_up up).trans ((terminalChange_eq k term u).trans ?_))
    refine (if_neg still).trans ((rawTransition_set k u.now u i).trans ?_)
    rw [← turns]
    rfl
  have reversed : i.reversed next = j := i.reversed_eq next
  have window : (i.reversed next).windowCount next = n := by rw [reversed]; rfl
  have counted (m : Nat) (x : Input) : x.bounce inShot m = bounced m x := x.bounce_eq inShot m
  have opens : openingBounces i.window = opening := rfl
  refine ⟨fun same => ?_, fun still chatter => ?_, ?_⟩
  · exact congrArg Host.Outcome.next
      ((whenUp_up up).trans ((terminalChange_eq k term u).trans (if_pos same)))
  · refine (moves still _ ((i.transition_bounces inShot next u.now chatter).trans (by rw [reversed, counted]))).trans ?_
    exact congrArg Host.Outcome.next (if_neg (by simp [chatter]))
  · intro chattering
    refine ⟨fun still normal limited exceeds => ?_, fun still normal within =>
      ⟨fun w opened ends shot shut => ?_, fun open_ => ?_⟩⟩
    · refine (moves still chattering ?_).trans ?_
      · rw [i.transition_enters inShot next u.now normal limited (window ▸ exceeds), reversed]
        unfold Input.enterChatter
        rw [counted]
        rfl
      · exact congrArg Host.Outcome.next (if_pos (by simp [normal, chattering]))
    · refine (moves still { j with window := some w } ?_).trans ?_
      · rw [i.transition_debounces inShot next u.now normal (window ▸ within), reversed, Input.debounce,
          show j.window = none from shut]
        obtain ⟨o, e, c⟩ := w
        subst opened ends shot
        rfl
      · exact congrArg Host.Outcome.next (if_neg (by
          show ¬ (i.chatter && !i.chatter) = true
          simp))
    · obtain ⟨w, hw⟩ := Option.ne_none_iff_exists'.1 open_
      refine (moves still { bounced (opening + 1) j with window := none } ?_).trans ?_
      · rw [i.transition_debounces inShot next u.now normal (window ▸ within), reversed, Input.debounce,
          show j.window = some w from hw, ← opens, hw, ← counted]
      · exact congrArg Host.Outcome.next (if_neg (by
          show ¬ (i.chatter && !i.chatter) = true
          simp))

/-! ## The outcome of a learning (R79 to R81) -/

theorem highestCode_le (limit n : Nat) : highestCode limit n ≤ n := by
  induction n with
  | zero => exact le_rfl
  | succ n ih =>
    unfold highestCode
    split
    · exact le_rfl
    · omega

theorem highestCode_holds (limit n : Nat) : highestCode limit n = 0 ∨ pickUp (highestCode limit n) ≤ limit := by
  induction n with
  | zero => exact .inl rfl
  | succ n ih =>
    unfold highestCode
    split
    case isTrue fits => exact .inr fits
    case isFalse => exact ih

theorem le_highestCode {limit n c : Nat} (within : c ≤ n) (fits : pickUp c ≤ limit) : c ≤ highestCode limit n := by
  induction n with
  | zero => exact within
  | succ n ih =>
    unfold highestCode
    split
    case isTrue => exact within
    case isFalse misses =>
      rcases Nat.eq_or_lt_of_le within with rfl | below
      · exact absurd fits misses
      · exact ih (by omega)

/-- The code that FULL finds is the highest that fits. -/
theorem highestCode_eq {limit upper code : Nat} (highest : ∀ c ≤ upper, pickUp c ≤ limit → c ≤ code)
    (fits : code = 0 ∨ code ≤ upper ∧ pickUp code ≤ limit) : highestCode limit upper = code := by
  apply Nat.le_antisymm
  · rcases highestCode_holds limit upper with zero | holds
    · omega
    · exact highest _ (highestCode_le limit upper) holds
  · rcases fits with rfl | ⟨within, fits⟩
    · exact Nat.zero_le _
    · exact le_highestCode within fits

/-- The end of a learning that has taken its readings. -/
theorem exec_learningEnd {s : State} {k : InputId} {l : Learning} (up : s.power = .up)
    (learning : (s.inp.get k).learn = some l) (full : l.readings = 100) :
    let i := s.inp.get k
    let j := i.learned l
    let u : State := { s with inp := s.inp.set k j }
    exec (.learningEnd k) s = .next ((if j.cfg.code ≠ i.cfg.code ∧ j.compare ≠ j.raw then
      rawTransition k s.now u else u).raise .learnDone) := by
  intro i j u
  refine congrArg Host.Outcome.next ((whenUp_up up).trans ?_)
  unfold learningEnd
  rw [learning]
  refine (if_pos (by omega)).trans ?_
  unfold completeLearning
  simp only [Bool.and_eq_true, bne_iff_ne]
  rfl

/-- Settles O31, method by method. -/
theorem learningEnds : Obligations.LearningEnds := by
  intro s k l up learning full i vOn learned ends
  have outcome : ends (i.learned l) := by
    have run := exec_learningEnd up learning full
    refine ⟨fun stands => run.trans ?_, fun code level => run.trans ?_⟩
    · rw [if_neg (by tauto)]
    · rw [if_pos ⟨code, level⟩]
  refine ⟨fun low full same => ?_, fun high lowCode highCode split method => ?_,
    fun high upper trim method code highest fits => ?_⟩
  · have learnt : i.learned l = learned i.cfg.code full false := by
      unfold Input.learned
      dsimp only
      rw [decide_eq_false (show ¬ 5 ≤ l.sum / 100 from Nat.not_le.2 low), same]
      rfl
    exact learnt ▸ outcome
  · have learnt : i.learned l = learned (if vOn < split then lowCode else highCode) false true := by
      unfold Input.learned
      dsimp only
      rw [decide_eq_true (show 5 ≤ l.sum / 100 from high), method]
      rfl
    exact learnt ▸ outcome
  · have learnt : i.learned l = learned (max 0 (min (upper : Int) (code + trim))).toNat true true := by
      unfold Input.learned
      dsimp only
      rw [decide_eq_true (show 5 ≤ l.sum / 100 from high), method, ← highestCode_eq highest fits]
      rfl
    exact learnt ▸ outcome

/-! ## Qualified edges (R71, R73) -/

/-- The edge to which an input turns that takes its raw level. -/
def Input.turns (i : Input) : Edge := if i.raw = i.cfg.activeHigh then .active else .inactive

/-- The timers that take an edge of an input. -/
theorem edge_timers (s : State) (k : InputId) (edge : Edge) (time routed : Time) :
    ((List.finRange 8).filterMap fun m =>
      if (s.tmr.get m).cfg.enabled && (s.tmr.get m).cfg.mode.input == some k then
        some (Work.timer m k edge time routed) else none) =
    (List.finRange 8).filterMap fun m =>
      if (s.tmr.get m).cfg.enabled ∧ (s.tmr.get m).cfg.mode.input = some k then
        some (Work.timer m k edge time routed) else none := by
  simp only [Bool.and_eq_true, beq_iff_eq]

theorem breakerWork_eq (brk : Bank Breaker 2) (k : InputId) (t : Time) (b : BreakerId) : breakerWork brk k t b =
    (if (brk.get b).cfg.enabled ∧ (brk.get b).cfg.trip = some k then [.trip b k t] else []) ++
    (if (brk.get b).cfg.enabled ∧ (brk.get b).cfg.close = some k then [.close b k t] else []) := by
  simp only [breakerWork, Bool.and_eq_true, beq_iff_eq]

/-- The work that an active edge sets (R73, R118). -/
theorem edgeWork_active {s : State} {k : InputId} {edge : Edge} (active : edge = .active) (time routed : Time) :
    edgeWork s k edge time routed =
      .route { kind := .inputActive k, time, routed } ::
        (((if (s.brk.get 0).cfg.enabled ∧ (s.brk.get 0).cfg.trip = some k then [.trip 0 k routed] else []) ++
          (if (s.brk.get 0).cfg.enabled ∧ (s.brk.get 0).cfg.close = some k then [.close 0 k routed] else [])) ++
        ((if (s.brk.get 1).cfg.enabled ∧ (s.brk.get 1).cfg.trip = some k then [.trip 1 k routed] else []) ++
          (if (s.brk.get 1).cfg.enabled ∧ (s.brk.get 1).cfg.close = some k then [.close 1 k routed] else [])) ++
        (List.finRange 8).filterMap fun m =>
          if (s.tmr.get m).cfg.enabled ∧ (s.tmr.get m).cfg.mode.input = some k then
            some (Work.timer m k edge time routed) else none) := by
  subst active
  dsimp only [edgeWork]
  rw [edge_timers, breakerWork_eq, breakerWork_eq]

/-- The work that an inactive edge sets (R73). -/
theorem edgeWork_inactive {s : State} {k : InputId} {edge : Edge} (inactive : edge = .inactive)
    (time routed : Time) : edgeWork s k edge time routed =
      .route { kind := .inputInactive k, time, routed } ::
        (List.finRange 8).filterMap fun m =>
          if (s.tmr.get m).cfg.enabled ∧ (s.tmr.get m).cfg.mode.input = some k then
            some (Work.timer m k edge time routed) else none := by
  subst inactive
  dsimp only [edgeWork]
  rw [edge_timers]

/-- The edge of an input that has just taken the value `i`. -/
theorem qualify_set (k : InputId) (time routed : Time) (s : State) (i : Input) :
    qualify k time routed { s with inp := s.inp.set k i } =
      let edges := if s.seq.st.inShot then bump i.edges else i.edges
      let u : State := { s with inp := s.inp.set k { i with qual := i.raw, edges } }
      if s.seq.st.inShot then (u, edgeWork s k i.turns time routed) else (armedEdge k i.turns routed u, []) := by
  have edge (n : Nat) : (if Input.isActive { i with qual := i.raw, edges := n } then Edge.active else .inactive) =
      i.turns := by
    unfold Input.isActive Input.turns
    simp only [beq_iff_eq]
  unfold qualify
  simp only [Bank.get_set_self, Bank.set_set, edge]
  rfl

theorem qualify_inShot {k : InputId} {time routed : Time} {s : State} {i : Input} (shot : s.seq.st.inShot = true) :
    qualify k time routed { s with inp := s.inp.set k i } =
      ({ s with inp := s.inp.set k { i with qual := i.raw, edges := min (i.edges + 1) 65535 } },
        edgeWork s k i.turns time routed) := by
  rw [qualify_set, shot]
  rfl

theorem qualify_outside {k : InputId} {time routed : Time} {s : State} {i : Input}
    (outside : s.seq.st.inShot = false) : qualify k time routed { s with inp := s.inp.set k i } =
      (armedEdge k i.turns routed { s with inp := s.inp.set k { i with qual := i.raw } }, []) := by
  rw [qualify_set, outside]
  rfl

theorem armedEdge_starts {k : InputId} {edge : Edge} {routed : Time} {s : State} (armed : s.seq.st = .armed)
    (source : s.seq.source = some (.input k edge)) (free : s.seq.startDue = none) :
    armedEdge k edge routed s = { s with seq := { s.seq with startDue := some routed } } := by
  unfold armedEdge
  rw [armed, source, free]
  exact if_pos ⟨rfl, rfl⟩

theorem armedEdge_passes {k : InputId} {edge : Edge} {routed : Time} {s : State}
    (other : s.seq.st ≠ .armed ∨ s.seq.source ≠ some (.input k edge) ∨ s.seq.startDue ≠ none) :
    armedEdge k edge routed s = s := by
  unfold armedEdge
  split
  case h_1 j e armed source free =>
    rcases other with no | no | no
    · exact absurd armed no
    · refine if_neg fun same => no ?_
      rw [source, same.1, same.2]
    · exact absurd free no
  case h_2 => rfl

/-- Settles O33: in a shot the edge sets its work, outside one it may be the start. -/
theorem debounceQualifiesTheEdge : Obligations.DebounceQualifiesTheEdge := by
  intro s k sched w up window i u j edge v
  have run : exec (.debounceWindowEnd k sched) s =
      .next (let r := qualify k w.opened w.ends { u with inp := u.inp.set k { i with window := none } }
        runWorks sched r.2 r.1) := by
    refine congrArg Host.Outcome.next ((whenUp_up up).trans ?_)
    unfold debounceEnd
    rw [window]
    rfl
  have turns : ({ i with window := none } : Input).turns = edge := rfl
  refine ⟨fun shot => ?_, fun outside => ?_⟩
  · intro v' timers commands
    refine ⟨fun active => run.trans ?_, fun inactive => run.trans ?_⟩
    · rw [qualify_inShot (s := u) shot, turns, edgeWork_active active]
      rfl
    · rw [qualify_inShot (s := u) shot, turns, edgeWork_inactive inactive]
      rfl
  · have handed : exec (.debounceWindowEnd k sched) s = .next (armedEdge k edge w.ends v) := by
      rw [run, qualify_outside (s := u) outside]
      rfl
    refine ⟨fun armed source free => handed.trans ?_, fun other => handed.trans ?_⟩
    · exact congrArg Host.Outcome.next (armedEdge_starts (s := v) armed source free)
    · exact congrArg Host.Outcome.next (armedEdge_passes (s := v) other)

end Sys2Proof.Machine
end

section
/-! PROOFS. The boundary of the chatter windows (R73, R75, R76): outside a shot the exits set no work of their
own and are taken in any order with one outcome. -/

namespace Sys2Proof.Machine

/-! ## One input leaves CHATTER -/

/-- An input that has left CHATTER: its qualified level takes the raw level when the held level differs. -/
def Input.left (i : Input) : Input :=
  { i with chatter := false, qual := if i.raw ≠ i.held then i.raw else i.qual }

/-- The exit of the input is the start that an arm waits for. -/
def ExitStarts (s : State) (k : InputId) : Prop :=
  (s.inp.get k).raw ≠ (s.inp.get k).held ∧ s.seq.st = .armed ∧ s.seq.startDue = none ∧
    s.seq.source = some (.input k (s.inp.get k).turns)

section
variable {s : State} {k : InputId} (t : Time) (chatter : (s.inp.get k).chatter = true)
include chatter

theorem leaveChatter_level (same : (s.inp.get k).raw = (s.inp.get k).held) :
    leaveChatter k t s = ({ s with inp := s.inp.set k { s.inp.get k with chatter := false } }, []) := by
  unfold leaveChatter
  dsimp only
  rw [if_pos chatter]
  exact if_neg (by simpa using same)

theorem leaveChatter_edge (differ : (s.inp.get k).raw ≠ (s.inp.get k).held) : leaveChatter k t s =
    qualify k t t { s with inp := s.inp.set k { s.inp.get k with chatter := false } } := by
  unfold leaveChatter
  dsimp only
  rw [if_pos chatter]
  exact if_pos (by simpa using differ)

/-- Outside a shot the input leaves, and sets no work. -/
theorem leaveChatter_outside (outside : s.seq.st.inShot = false) : ∃ due, leaveChatter k t s =
    ({ s with inp := s.inp.set k (s.inp.get k).left, seq := { s.seq with startDue := due } }, []) ∧
    (ExitStarts s k → due = some t) ∧ (¬ ExitStarts s k → due = s.seq.startDue) := by
  by_cases same : (s.inp.get k).raw = (s.inp.get k).held
  · refine ⟨s.seq.startDue, ?_, fun starts => absurd same starts.1, fun _ => rfl⟩
    rw [leaveChatter_level t chatter same, Input.left, if_neg (not_not.2 same)]
  · rw [leaveChatter_edge t chatter same, qualify_outside outside, Input.left, if_pos same]
    by_cases starts : ExitStarts s k
    · obtain ⟨-, armed, free, source⟩ := id starts
      refine ⟨some t, ?_, fun _ => rfl, fun no => absurd starts no⟩
      exact congrArg (·, []) (armedEdge_starts (s := { s with inp := _ }) armed source free)
    · refine ⟨s.seq.startDue, ?_, fun yes => absurd yes starts, fun _ => rfl⟩
      refine congrArg (·, []) (armedEdge_passes (s := { s with inp := _ }) ?_)
      by_contra no
      simp only [not_or, not_not, ne_eq] at no
      exact starts ⟨same, no.1, no.2.2, no.2.1⟩

end

/-! ## The exits of one boundary -/

/-- `u` is `s` after the exits of the inputs `ks` at `t`. -/
structure Exited (ks : List InputId) (t : Time) (s u : State) : Prop where
  left : ∀ k ∈ ks, u.inp.get k = (s.inp.get k).left
  other : ∀ k, k ∉ ks → u.inp.get k = s.inp.get k
  starts : ∀ k ∈ ks, ExitStarts s k → u.seq.startDue = some t
  keeps : (∀ k ∈ ks, ¬ ExitStarts s k) → u.seq.startDue = s.seq.startDue
  frame : u = { s with inp := u.inp, seq := { s.seq with startDue := u.seq.startDue } }

theorem Exited.congr {ks ls : List InputId} {t : Time} {s u : State} (same : ∀ k, k ∈ ks ↔ k ∈ ls)
    (h : Exited ks t s u) : Exited ls t s u where
  left k hk := h.left k ((same k).2 hk)
  other k hk := h.other k fun m => hk ((same k).1 m)
  starts k hk := h.starts k ((same k).2 hk)
  keeps no := h.keeps fun k hk => no k ((same k).1 hk)
  frame := h.frame

/-- One exit, and then the others. -/
theorem Exited.cons {k : InputId} {ks : List InputId} {t : Time} {s u : State} {due : Option Time}
    (fresh : k ∉ ks) (starts : ExitStarts s k → due = some t) (passes : ¬ ExitStarts s k → due = s.seq.startDue)
    (h : Exited ks t { s with inp := s.inp.set k (s.inp.get k).left, seq := { s.seq with startDue := due } } u) :
    Exited (k :: ks) t s u := by
  have apart {j : InputId} (hj : j ∈ ks) : k ≠ j := fun e => fresh (e ▸ hj)
  have later {j : InputId} (hj : j ∈ ks) (no : ¬ ExitStarts s k) : ExitStarts { s with
      inp := s.inp.set k (s.inp.get k).left, seq := { s.seq with startDue := due } } j ↔ ExitStarts s j := by
    simp only [ExitStarts, Bank.get_set_ne _ _ (apart hj), passes no]
  refine ⟨fun j hj => ?_, fun j hj => ?_, fun j hj yes => ?_, fun no => ?_, ?_⟩
  · rcases List.mem_cons.1 hj with rfl | hj
    · rw [h.other j fresh, Bank.get_set_self]
    · rw [h.left j hj, Bank.get_set_ne _ _ (apart hj)]
  · obtain ⟨ne, hj⟩ := not_or.1 (List.mem_cons.not.1 hj)
    rw [h.other j hj, Bank.get_set_ne _ _ (Ne.symm ne)]
  · by_cases first : ExitStarts s k
    · refine (h.keeps fun j _ yes => ?_).trans (starts first)
      have taken : due = none := yes.2.2.1
      rw [starts first] at taken
      cases taken
    · rcases List.mem_cons.1 hj with rfl | hj
      · exact absurd yes first
      · exact h.starts j hj ((later hj first).2 yes)
  · have first := no k (List.mem_cons_self ..)
    refine (h.keeps fun j hj yes => no j (List.mem_cons_of_mem _ hj) ((later hj first).1 yes)).trans
      (passes first)
  · rw [h.frame]

/-- One of the pieces of work that wait is carried out. -/
theorem runWork_takes {ω : Type} (act : ω → State → State × List ω) (fuel : Nat) (sched : List Nat) {ws : List ω}
    (s : State) {i : Nat} (below : i < ws.length) (chosen : sched.headD 0 % ws.length = i) :
    runWork act (fuel + 1) sched ws s =
      runWork act fuel sched.tail (ws.eraseIdx i ++ (act ws[i] s).2) (act ws[i] s).1 := by
  cases ws with
  | nil => exact absurd below (Nat.not_lt_zero i)
  | cons w ws => rw [runWork, chosen, List.getD_eq_getElem _ _ below]

/-- Outside a shot the exits are taken one after another, in any order. -/
theorem runWork_exits (t : Time) {fuel : Nat} {sched : List Nat} {ks : List InputId} {s : State}
    (room : ks.length ≤ fuel) (distinct : ks.Nodup) (chatter : ∀ k ∈ ks, (s.inp.get k).chatter = true)
    (outside : s.seq.st.inShot = false) :
    Exited ks t s (runWork Work.act fuel sched (ks.map fun k => .exit k t) s) := by
  induction fuel generalizing sched ks s with
  | zero =>
    obtain rfl := List.length_eq_zero_iff.1 (Nat.le_zero.1 room)
    exact ⟨by simp, fun _ _ => rfl, by simp, fun _ => rfl, rfl⟩
  | succ fuel ih =>
    cases ks with
    | nil => exact ⟨by simp, fun _ _ => rfl, by simp, fun _ => rfl, rfl⟩
    | cons l ls =>
      let i := sched.headD 0 % (l :: ls).length
      have below : i < (l :: ls).length := Nat.mod_lt _ (by simp)
      have order := List.getElem_cons_eraseIdx_perm below
      have apart := (order.nodup_iff.2 distinct)
      obtain ⟨fresh, others⟩ := List.nodup_cons.1 apart
      have taken := chatter _ (List.getElem_mem below)
      obtain ⟨due, leaves, starts, passes⟩ := leaveChatter_outside t taken outside
      have run : runWork Work.act (fuel + 1) sched ((l :: ls).map fun k => .exit k t) s =
          runWork Work.act fuel sched.tail (((l :: ls).eraseIdx i).map fun k => .exit k t)
            { s with inp := s.inp.set (l :: ls)[i] (s.inp.get (l :: ls)[i]).left
                     seq := { s.seq with startDue := due } } := by
        rw [runWork_takes Work.act fuel sched s (i := i) (by simpa using below) (by rw [List.length_map]),
          List.getElem_map, show Work.act (.exit (l :: ls)[i] t) s = leaveChatter _ t s from rfl, leaves,
          List.append_nil, List.eraseIdx_map]
      rw [run]
      refine (Exited.cons fresh starts passes (ih ?_ others (fun k hk => ?_) outside)).congr fun k => order.mem_iff
      · rw [List.length_eraseIdx_of_lt below]
        simp only [List.length_cons] at room ⊢
        omega
      · have ne : (l :: ls)[i] ≠ k := fun e => fresh (e ▸ hk)
        rw [Bank.get_set_ne _ _ ne]
        exact chatter k (List.mem_of_mem_eraseIdx hk)

/-! ## The boundary -/

/-- The state in which a boundary at `t` has begun the next windows. -/
def State.nextWindows (t : Time) (s : State) : State :=
  { s with
    now := t
    clock := { s.clock with nextChatter := nextMultiple 1000000 t }
    inp := .ofFn fun k => { s.inp.get k with count := (s.inp.get k).early, early := 0 } }

theorem mem_leavers (s : State) (k : InputId) : k ∈ leavers s.inp ↔
    (s.inp.get k).chatter = true ∧ (s.inp.get k).count ≤ (s.inp.get k).cfg.limit / 2 := by
  simp [leavers]

theorem leavers_ascending (s : State) : (leavers s.inp).Pairwise (· < ·) :=
  (List.sortedLT_finRange 10).pairwise.filter _

theorem exec_chatterWindowBoundary {s : State} (sched : List Nat) (up : s.power = .up)
    (due : atOrAfter s.now s.clock.nextChatter = true) : exec (.chatterWindowBoundary sched) s =
      .next (runWorks sched ((leavers s.inp).map fun k => .exit k s.clock.nextChatter)
        (s.nextWindows s.clock.nextChatter)) := by
  refine congrArg Host.Outcome.next ((whenUp_up up).trans ?_)
  have instant : periodicDue 1000000 s.clock.nextChatter s.now = s.clock.nextChatter := if_pos due
  have later : laterOf s.now s.clock.nextChatter = s.clock.nextChatter := if_pos due
  have windows : s.inp.map Input.nextWindow = .ofFn fun k =>
      { s.inp.get k with count := (s.inp.get k).early, early := 0 } := by
    ext k
    rw [Bank.get_map, Bank.get_ofFn]
    rfl
  unfold chatterBoundary
  rw [instant]
  dsimp only [State.advance]
  rw [later, windows]
  rfl

/-- Settles O34: the boundary in a shot and outside one, and the exit of one input in a shot. -/
theorem chatterWindowsEnd : Obligations.ChatterWindowsEnd := by
  refine ⟨fun s sched up due => ?_, fun s k t shot => ?_⟩
  · intro t leaves edged starts
    have run := exec_chatterWindowBoundary sched up due
    refine ⟨fun _ => ⟨leavers s.inp, leavers_ascending s, mem_leavers s, run⟩, fun outside => ?_⟩
    have begun (k : InputId) : (s.nextWindows t).inp.get k =
        { s.inp.get k with count := (s.inp.get k).early, early := 0 } := Bank.get_ofFn ..
    have exited : Exited (leavers s.inp) t (s.nextWindows t) (runWorks sched ((leavers s.inp).map fun k =>
        .exit k t) (s.nextWindows t)) := by
      refine runWork_exits t ?_ ((leavers_ascending s).imp ne_of_lt) (fun k hk => ?_) outside
      · have := List.length_filter_le (fun k => (s.inp.get k).chatter &&
          decide ((s.inp.get k).count ≤ (s.inp.get k).cfg.limit / 2)) (List.finRange 10)
        rw [List.length_finRange] at this
        exact this.trans (by decide)
      · rw [begun]
        exact ((mem_leavers s k).1 hk).1
    have starting (k : InputId) : starts k ↔ k ∈ leavers s.inp ∧ ExitStarts (s.nextWindows t) k := by
      simp only [ExitStarts, begun, mem_leavers]
      exact and_assoc
    generalize runWorks sched ((leavers s.inp).map fun k => .exit k t) (s.nextWindows t) = u at run exited
    refine ⟨u, run, fun k => ?_, fun ⟨k, hk⟩ => ?_, fun no => ?_, ?_⟩
    · by_cases hk : k ∈ leavers s.inp
      · have gone := (mem_leavers s k).1 hk
        rw [exited.left k hk, begun]
        refine ⟨rfl, rfl, ?_, fun edge => if_pos edge.2,
          fun level => if_neg fun differ => level ⟨gone, differ⟩, rfl⟩
        simp only [Input.left, Bool.false_eq_true, false_iff, not_and, not_not]
        exact fun _ => gone
      · have stays := fun gone => hk ((mem_leavers s k).2 gone)
        rw [exited.other k hk, begun]
        exact ⟨rfl, rfl, ⟨fun chatter => ⟨chatter, stays⟩, fun ⟨chatter, _⟩ => chatter⟩,
          fun edge => absurd edge.1 stays, fun _ => rfl, rfl⟩
    · obtain ⟨leaver, exit⟩ := (starting k).1 hk
      exact exited.starts k leaver exit
    · exact exited.keeps fun k hk exit => no k ((starting k).2 ⟨hk, exit⟩)
    · exact exited.frame
  · intro i edge turned timers commands
    refine ⟨fun chatter same => leaveChatter_level t chatter same, fun chatter differ active => ?_,
      fun chatter differ inactive => ?_⟩
    · refine (leaveChatter_edge t chatter differ).trans ((qualify_inShot shot).trans ?_)
      exact congrArg (turned, ·) (edgeWork_active (s := s) active t t)
    · refine (leaveChatter_edge t chatter differ).trans ((qualify_inShot shot).trans ?_)
      exact congrArg (turned, ·) (edgeWork_inactive (s := s) inactive t t)

end Sys2Proof.Machine
end

section
/-! PROOFS. The reject set, ARM, and the host's control of a shot (R19, R39 to R42, R137, R152, R153). -/

namespace Sys2Proof.Machine

/-! ## The reject set (R152, R153) -/

theorem mem_rejectSources (r : RejectSource) : r ∈ rejectSources := by
  cases r <;> simp [rejectSources]

theorem mem_rejectSet (s : State) (r : RejectSource) : r ∈ rejectSet s ↔ rejectActive s r = true := by
  simp [rejectSet, mem_rejectSources]

theorem connects_iff (m : OutletMap) : m.connects = true ↔ m.arrangement ≠ .disconnected := by
  rw [OutletMap.connects_eq, decide_eq_true_eq]

theorem Rule.usesJ_iff (r : Rule) : r.usesJ = true ↔ ∃ c a, r.mode = .atAngle c a ∧ 7 ≤ c.val := by
  unfold Rule.usesJ
  cases r.mode with
  | immediate => simp
  | atPps => simp
  | atAngle ref angle => simp [isJ]

theorem Ramp.usesJ_iff (r : Ramp) : r.usesJ = true ↔
    r.quantity = .amplitude ∧ 0 < r.step ∧ ∃ c : Channel, 7 ≤ c.val ∧ r.chans.get c = true := by
  simp [Ramp.usesJ, isJ, and_assoc]

theorem StateRecord.usesJ_iff (r : StateRecord) : r.usesJ = true ↔
    (∃ c : Channel, 7 ≤ c.val ∧ (r.chans.get c).amp ≠ 0) ∨
    (∃ (p : Ramp) (c : Channel), r.ramp = some p ∧ p.quantity = .amplitude ∧ 0 < p.step ∧ 7 ≤ c.val ∧
      p.chans.get c = true) ∨
    (∃ c a, r.rule.mode = .atAngle c a ∧ 7 ≤ c.val) ∨
    ∃ e ∈ r.exceptions, ∃ c a, e.rule.mode = .atAngle c a ∧ 7 ≤ c.val := by
  have amplitudes : ((List.finRange 10).any fun c => isJ c && (r.chans.get c).amp != 0) = true ↔
      ∃ c : Channel, 7 ≤ c.val ∧ (r.chans.get c).amp ≠ 0 := by
    simp [isJ]
  have ramp : (match r.ramp with
      | some p => p.usesJ
      | none => false) = true ↔ ∃ (p : Ramp) (c : Channel), r.ramp = some p ∧ p.quantity = .amplitude ∧
        0 < p.step ∧ 7 ≤ c.val ∧ p.chans.get c = true := by
    cases r.ramp with
    | none => simp
    | some p => simp [Ramp.usesJ_iff]
  have rules : (r.exceptions.any fun e => e.rule.usesJ) = true ↔
      ∃ e ∈ r.exceptions, ∃ c a, e.rule.mode = .atAngle c a ∧ 7 ≤ c.val := by
    simp only [List.any_eq_true, Rule.usesJ_iff]
  unfold StateRecord.usesJ
  rw [Bool.or_eq_true, Bool.or_eq_true, Bool.or_eq_true, amplitudes, r.rule.usesJ_iff, rules, or_assoc, or_assoc]
  exact or_congr_right (or_congr_left ramp)

theorem any_loadedRecords (q : Sequencer) (p : StateRecord → Bool) :
    ((loadedRecords q).any fun x => p x.2) = true ↔ ∃ i r, q.table.get i = some r ∧ p r = true := by
  simp only [loadedRecords, List.any_eq_true, List.mem_filterMap, List.mem_finRange, true_and,
    Option.map_eq_some_iff]
  exact ⟨fun ⟨_, ⟨i, r, loaded, e⟩, holds⟩ => ⟨i, r, loaded, by subst e; exact holds⟩,
    fun ⟨i, r, loaded, holds⟩ => ⟨(i, r), ⟨i, r, loaded, rfl⟩, holds⟩⟩

theorem mapMismatch_iff (s : State) : mapMismatch s = true ↔
    s.seq.commit = true ∧ s.syn.map.arrangement = .parallel ∧
      ((∃ i r, s.seq.table.get i = some r ∧ r.usesJ = true) ∨
       ∃ b, (s.brk.get b).cfg.enabled = true ∧ (s.brk.get b).cfg.group = some .groupJ) := by
  have breakers : (s.brk.items.any fun b => b.cfg.enabled && b.cfg.group == some .groupJ) = true ↔
      ∃ b, (s.brk.get b).cfg.enabled = true ∧ (s.brk.get b).cfg.group = some .groupJ := by
    rw [Bank.any_items]
    simp only [Bool.and_eq_true, beq_iff_eq]
  unfold mapMismatch
  rw [Bool.and_eq_true, Bool.and_eq_true, Bool.or_eq_true, any_loadedRecords, breakers, beq_iff_eq, and_assoc]

/-- Settles O35, source by source. -/
theorem rejectSourcesAreConditions : Obligations.RejectSourcesAreConditions := by
  intro s
  simp only [mem_rejectSet]
  refine ⟨Iff.rfl, Iff.rfl, Option.isSome_iff_ne_none, ?_, ?_, ?_, decide_eq_true_iff, ?_, fun o => Iff.rfl,
    fun o => ?_⟩
  · show (!s.syn.map.connects) = true ↔ _
    rw [Bool.not_eq_true', Bool.eq_false_iff, Ne, connects_iff, not_not]
  · refine (mapMismatch_iff s).trans ?_
    simp only [StateRecord.usesJ_iff]
  · show (s.inp.items.any fun i => i.learn.isSome) = true ↔ _
    simp only [Bank.any_items, Option.isSome_iff_ne_none]
  · show s.tb.sync.lost = true ↔ _
    unfold Sync.lost
    cases s.tb.sync <;> simp
  · show (!strapService s.link.strap && s.syn.map.connects && s.cal.status.get o == .defaulted) = true ↔ _
    rw [Bool.and_eq_true, Bool.and_eq_true, Bool.not_eq_true', Bool.eq_false_iff, Ne, strapService_iff,
      connects_iff, beq_iff_eq, and_assoc]

/-! ## ARM (R19) -/

theorem counted_iff (src : StartSource) (r : RejectSource) :
    counted src r = true ↔ (r = .noSync → ∃ n, src = .pps n) := by
  cases src <;> cases r <;> simp [counted]

theorem mem_countedSet (src : StartSource) (s : State) (r : RejectSource) : r ∈ countedSet src s ↔
    r ∈ rejectSet s ∧ (r = .noSync → ∃ n, src = .pps n) := by
  rw [countedSet, List.mem_filter, counted_iff]

theorem countedSet_nodup (src : StartSource) (s : State) : (countedSet src s).Nodup := by
  have all : rejectSources.Nodup := by decide
  exact (all.filter _).filter _

theorem StartSource.dueAt_eq (src : StartSource) (now : Time) :
    src.dueAt now = if src = .now then some now else none := by
  cases src <;> rfl

/-- A request that is answered at once with a state that differs from the one before it outside the link. -/
theorem LinkFree.exec_controlled {c : Instr} {t : Time} {f : Frame} {s : State} (asks : requestOf c = some (t, f))
    (h : LinkFree s) (known : messageCodes.contains f.kind = true) (length : lengthOk f.kind f.body = true)
    {block : State → Answered} (handles : ∀ u, message f.kind f.body u = atOnce (block u)) {z : State}
    {reply : List Byte} (free : z.link.queue = [])
    (answers : block ((s.advance t).queued f) = (z.queued f, reply)) :
    exec c s = .next (z.replied f reply) :=
  h.exec_answered asks known length free ((handles _).trans (congrArg atOnce answers))

section
variable {body : List Byte} {s : State} {src : StartSource}

theorem armShot_busy (busy : s.seq.st ≠ .ready) : armShot body s = refused .wrongState s := by
  unfold armShot
  split
  case h_1 ready => exact absurd ready busy
  all_goals rfl

theorem armShot_range (ready : s.seq.st = .ready) (bad : readArm body = none) :
    armShot body s = refused .paramRange s := by
  unfold armShot
  rw [ready]
  dsimp only
  rw [bad]

theorem armShot_accepts (ready : s.seq.st = .ready) (read : readArm body = some src)
    (clear : countedSet src s = []) : armShot body s = done (s.arm src) := by
  unfold armShot
  rw [ready]
  dsimp only
  rw [read]
  dsimp only
  rw [clear]

theorem armShot_rejects (ready : s.seq.st = .ready) (read : readArm body = some src)
    (active : countedSet src s ≠ []) : armShot body s = (s, 0x06 :: rejectBytes (countedSet src s)) := by
  unfold armShot
  rw [ready]
  dsimp only
  rw [read]
  dsimp only
  split
  case h_1 clear => exact absurd clear active
  case h_2 r rs e => rw [e]; rfl

end

/-- Settles O36, by the sequencer state, the operands and the counted sources. -/
theorem armReservesASlot : Obligations.ArmReservesASlot := by
  intro t tag body s h length f u
  have run {z : State} {reply : List Byte} (free : z.link.queue = [])
      (answers : armShot body (u.queued f) = (z.queued f, reply)) :
      exec (.arm t tag body) s = .next (z.replied f reply) :=
    h.exec_controlled (f := f) rfl (by rfl) (by simp [lengthOk, f, length]) (fun _ => rfl) free answers
  refine ⟨fun busy => run (z := u) h.noRequest ?_, fun ready bad => run (z := u) h.noRequest ?_,
    fun src ready read => ?_⟩
  · exact armShot_busy (s := u.queued f) busy
  · exact armShot_range (s := u.queued f) ready bad
  · intro active armed
    refine ⟨fun clear => ?_, fun ⟨r, hr⟩ => ⟨countedSet src s, countedSet_nodup src s, mem_countedSet src s, ?_⟩⟩
    · have none : countedSet src s = [] :=
        List.eq_nil_iff_forall_not_mem.2 fun r hr => clear r ((mem_countedSet src s r).1 hr)
      refine run (z := { u with seq := armed, rep := { s.rep with cur := .reserved } }) h.noRequest
        ((armShot_accepts (s := u.queued f) ready read none).trans ?_)
      unfold State.arm
      rw [StartSource.dueAt_eq]
      rfl
    · exact run (z := u) h.noRequest (armShot_rejects (s := u.queued f) ready read
        (List.ne_nil_of_mem ((mem_countedSet src s r).2 hr)))

/-! ## DARM, STOP and ABRT (R39 to R42) -/

theorem Link.raise_requeued (l : Link) (queue : List Frame) (n : Notice) :
    ({ l with queue } : Link).raise n = { l.raise n with queue } := by
  unfold Link.raise
  dsimp only
  split
  · rfl
  · split
    · exact Link.dueNote_requeued { l with noticeSet := l.noticeSet.set n.bit true } queue
    · rfl

namespace State
variable (s : State) (f : Frame)

theorem raise_queued (n : Notice) : (s.queued f).raise n = (s.raise n).queued f :=
  congrArg (fun link => { s with link := link }) (s.link.raise_requeued [f] n)

theorem write_queued (g : Report → Report) : (s.queued f).write g = (s.write g).queued f := by
  unfold write
  rw [show (s.queued f).rep = s.rep from rfl]
  cases s.rep.cur <;> rfl

theorem addFurther_queued (c : HardCause) : (s.queued f).addFurther c = (s.addFurther c).queued f := by
  unfold addFurther
  rw [show (s.queued f).seq = s.seq from rfl]
  split
  · rfl
  · exact write_queued { s with seq := { s.seq with further := s.seq.further ++ [c] } } f _

theorem recordEnd_queued (r : EndReason) (t : Time) : (s.queued f).recordEnd r t = (s.recordEnd r t).queued f :=
  write_queued { s with seq := { s.seq with endReason := some r, stopBegin := t } } f _

theorem hardStop_queued (c : HardCause) (t : Time) : (s.queued f).hardStop c t = (s.hardStop c t).queued f := by
  unfold hardStop
  rw [show (s.queued f).seq.st = s.seq.st from rfl, addFurther_queued, recordEnd_queued]
  cases s.seq.st <;> rfl

theorem softStop_queued (r : EndReason) (t : Time) : (s.queued f).softStop r t = (s.softStop r t).queued f := by
  unfold softStop
  rw [recordEnd_queued]
  rfl

theorem finalize_queued (t : Time) : finalize t (s.queued f) = (finalize t s).queued f := by
  have timers : closeTimers (s.queued f) = (closeTimers s).queued f :=
    write_queued { s with tmr := s.tmr.map Timer.close } f _
  have grades : writeGrades ((closeTimers s).queued f) = (writeGrades (closeTimers s)).queued f :=
    write_queued (closeTimers s) f _
  have held (u : State) : holdReport t (u.queued f) = (holdReport t u).queued f := by
    unfold holdReport
    rw [write_queued]
    exact raise_queued { u.write (completeReport u t) with rep := (u.write (completeReport u t)).rep.hold } f _
  unfold finalize
  rw [timers, grades, held]
  rfl

/-- A soft stop, with the entry of its end in the report (R32). -/
theorem softStop_eq (r : EndReason) (t : Time) : s.softStop r t = ({ s with
    seq := { s.seq with st := .stopping, endReason := some r, stopBegin := t, pend := none, durationDue := none,
                        dwellDue := none }
    syn := { s.syn with chans := s.syn.chans.map (Chan.stopRequest t) } } : State).write fun f =>
      { f with endReason := some r, stopBegin := relative s.seq.t0 t } := by
  unfold softStop recordEnd write
  cases s.rep.cur <;> rfl

end State

theorem Link.raise_queue (l : Link) (n : Notice) : (l.raise n).queue = l.queue := by
  have same := Link.raise_requeued l l.queue n
  exact (congrArg Link.queue same).trans rfl

theorem stopShot_outside {s : State} (outside : s.seq.st.inShot = false) :
    stopShot s = refused .wrongState s := by
  unfold stopShot
  split
  case h_1 e => rw [e] at outside; cases outside
  case h_2 e => rw [e] at outside; cases outside
  case h_3 e => rw [e] at outside; cases outside
  all_goals rfl

theorem abortShot_idle {s : State} (editable : s.seq.st.editable = true) :
    abortShot s = refused .wrongState s := by
  unfold abortShot
  split
  case h_1 e => rw [e] at editable; cases editable
  case h_2 e => rw [e] at editable; cases editable
  case h_3 e => rw [e] at editable; cases editable
  case h_4 e => rw [e] at editable; cases editable
  all_goals rfl

/-- Settles O37, message by message and state by state. -/
theorem darmStopAndAbrt : Obligations.DarmStopAndAbrt := by
  intro t tag s h u frame disarmed stopped
  have state (kind : Byte) : (u.queued (frame kind)).seq.st = s.seq.st := rfl
  have darm {z : State} {reply : List Byte} (free : z.link.queue = [])
      (answers : disarm (u.queued (frame 0x31)) = (z.queued (frame 0x31), reply)) :
      exec (.darm t tag []) s = .next (z.replied (frame 0x31) reply) :=
    h.exec_controlled (f := frame 0x31) rfl (by rfl) (by rfl) (fun _ => rfl) free answers
  have stop {z : State} {reply : List Byte} (free : z.link.queue = [])
      (answers : stopShot (u.queued (frame 0x32)) = (z.queued (frame 0x32), reply)) :
      exec (.stop t tag []) s = .next (z.replied (frame 0x32) reply) :=
    h.exec_controlled (f := frame 0x32) rfl (by rfl) (by rfl) (fun _ => rfl) free answers
  have abrt {z : State} {reply : List Byte} (free : z.link.queue = [])
      (answers : abortShot (u.queued (frame 0x33)) = (z.queued (frame 0x33), reply)) :
      exec (.abrt t tag []) s = .next (z.replied (frame 0x33) reply) :=
    h.exec_controlled (f := frame 0x33) rfl (by rfl) (by rfl) (fun _ => rfl) free answers
  refine ⟨fun armed => ⟨darm (z := disarmed) h.noRequest ?_, abrt (z := disarmed) h.noRequest ?_⟩,
    fun other => darm (z := u) h.noRequest ?_, fun running => stop (z := stopped) ?_ ?_,
    fun ending => stop (z := u) h.noRequest ?_, fun outside => stop (z := u) h.noRequest ?_,
    fun driving => abrt (z := u.hardStop .abort u.now) ?_ ?_, fun tail => abrt ?_ ?_,
    fun editable => abrt (z := u) h.noRequest ?_⟩
  · unfold disarm
    rw [state, armed]
    rfl
  · unfold abortShot
    rw [state, armed]
    rfl
  · unfold disarm
    split
    case h_1 armed => exact absurd armed other
    all_goals rfl
  · exact (congrArg Link.queue (State.write_link _ _)).trans h.noRequest
  · unfold stopShot
    rw [state, running]
    show done ((u.queued _).softStop .stop u.now) = _
    rw [State.softStop_queued, State.softStop_eq]
    rfl
  · unfold stopShot
    rw [state]
    rcases ending with e | e <;> rw [e] <;> rfl
  · exact stopShot_outside (s := u.queued _) outside
  · rw [hardStop_link]
    exact h.noRequest
  · unfold abortShot
    rw [state, State.hardStop_queued]
    rcases driving with e | e <;> rw [e] <;> rfl
  · rw [finalize_link, Link.raise_queue, (SameOutside.addFurther u .abort).link]
    exact h.noRequest
  · unfold abortShot
    rw [state, tail, State.addFurther_queued, State.finalize_queued]
    rfl
  · exact abortShot_idle (s := u.queued _) editable

end Sys2Proof.Machine
end

section
/-! PROOFS. The start of a shot: what a state entry carries out, and what t0 sets (R22, R28, R102, R127, R135,
R140, R148, R159). -/

namespace Sys2Proof.Machine

/-! ## State entry (R28) -/

/-- A report with a further trail entry (R28, R159). -/
def Report.trailed (e : TrailEntry) (r : Report) : Report :=
  { r with trail := appendTo 32 r.trail e, trailOver := overflowTo 32 r.trail r.trailOver,
           flags := { r.flags with angleMissed := r.flags.angleMissed || e.angleMissed,
                                   ppsMissed := r.flags.ppsMissed || e.ppsMissed } }

/-- The trail entry of a state entry. -/
def trailEntryOf (i : StateIdx) (cause : Cause) (angleMissed ppsMissed : Bool) (tick : Time) (s : State) :
    TrailEntry :=
  { state := i, tag := (s.seq.record i).tag, time := relative s.seq.t0 tick, cause, angleMissed, ppsMissed,
    superseded := false }

section
variable (i : StateIdx) (reset : Bool) (cause : Cause) (angleMissed ppsMissed : Bool) (tick : Time) {s : State}

theorem enterState_filling (filling : s.rep.cur = .filling) :
    enterState i reset cause angleMissed ppsMissed tick s =
    { enteredBlocks i reset tick s with
      rep := { s.rep with fill := s.rep.fill.trailed (trailEntryOf i cause angleMissed ppsMissed tick s) } } :=
  write_filling (s := enteredBlocks i reset tick s) filling
    (Report.trailed (trailEntryOf i cause angleMissed ppsMissed tick s))

/-- An output that the sequence owns follows the pattern of the state in force (R128, R129). -/
theorem outputNow_sequence {u : State} {o : BoutId} (owned : (outputNow u o).owner = .sequence) :
    (outputNow u o).closed = patternCloses u.seq o := by
  unfold outputNow at owned ⊢
  split
  case h_1 level drives => rw [drives] at owned; cases owned
  case h_2 undriven =>
    rw [undriven] at owned
    dsimp only at owned
    split at owned
    case isTrue named => rw [if_pos named]
    case isFalse => cases owned

theorem enteredBlocks_chan (s : State) (c : Channel) : (enteredBlocks i reset tick s).syn.chans.get c =
    (s.syn.chans.get c).load reset ((s.seq.record i).chans.get c) := Bank.get_mapIdx ..

/-- What the entry of a state in RUNNING carries out. -/
theorem enterState_entered (running : s.seq.st = .running) (filling : s.rep.cur = .filling) :
    Entered i reset cause angleMissed ppsMissed tick s
      (enterState i reset cause angleMissed ppsMissed tick s) := by
  have driving : (s.seq.st == .running) = true := by rw [running]; rfl
  have loaded := enteredBlocks_chan i reset tick s
  rw [enterState_filling i reset cause angleMissed ppsMissed tick filling]
  exact {
    inForce := rfl
    pend := rfl
    duration := rfl
    steps := rfl
    dwell := rfl
    amp := fun c => congrArg Chan.amp (loaded c)
    angle := fun c => congrArg Chan.angle (loaded c)
    freq := fun c => congrArg Chan.freq (loaded c)
    delta := fun c => congrArg Chan.delta (loaded c)
    phi := fun c => congrArg Chan.phi (loaded c)
    psi := fun c => congrArg Chan.psi (loaded c)
    fresh := fun c => congrArg Chan.fresh (loaded c)
    amps := rfl
    peaks := rfl
    clamped := by
      show (deriveOutlets (s.seq.st == .running) s.cal.working _).clamped = _
      rw [driving]
      rfl
    outputs := fun o owned => by
      change ((Bank.ofFn (outputNow _)).get o).owner = .sequence at owned
      show ((Bank.ofFn (outputNow _)).get o).closed = _
      rw [Bank.get_ofFn] at owned ⊢
      rw [outputNow_sequence owned]
      show (s.seq.st.driving && (s.seq.record i).pattern.get o) = _
      rw [running]
      rfl
    trail := fun room => if_pos room
    trailFull := fun full => ⟨if_neg (Nat.not_lt.2 full), if_neg (Nat.not_lt.2 full)⟩
    angleFlag := rfl
    ppsFlag := rfl }

theorem Entered.timers {i : StateIdx} {reset : Bool} {cause : Cause} {angleMissed ppsMissed : Bool} {tick : Time}
    {s v : State} (h : Entered i reset cause angleMissed ppsMissed tick s v) (tmr : Bank Timer 8) :
    Entered i reset cause angleMissed ppsMissed tick s { v with tmr } :=
  ⟨h.inForce, h.pend, h.duration, h.steps, h.dwell, h.amp, h.angle, h.freq, h.delta, h.phi, h.psi, h.fresh, h.amps,
    h.peaks, h.clamped, h.outputs, h.trail, h.trailFull, h.angleFlag, h.ppsFlag⟩

end

/-! ## The time base at t0 (R135, R140) -/

/-- An instant reached from `t` lies after `after t n` too when `n` µs have gone by. -/
theorem atOrAfter_after {t u : Time} {n : Nat} (reached : n ≤ elapsed t u) (later : atOrAfter t u = true) :
    atOrAfter (after t n) u = true := by
  unfold atOrAfter at later ⊢
  rw [decide_eq_true_eq] at later ⊢
  have range := (u - t).isLt
  have step : u - (t + BitVec.ofNat 48 n) = u - t - BitVec.ofNat 48 n :=
    sub_add_eq_sub_sub u t (BitVec.ofNat 48 n)
  unfold elapsed after at *
  rw [step, BitVec.toNat_sub, BitVec.toNat_ofNat, Nat.mod_eq_of_lt (by omega : n < 2 ^ 48)]
  omega

theorem relative_self (t : Time) : relative t t = 0 := by
  simp [relative, elapsed]

/-! ## The shot number (R22) -/

theorem freeNumber_range (held : List HeldReport) (fuel n : Nat) :
    1 ≤ freeNumber held fuel n ∧ freeNumber held fuel n ≤ 65535 := by
  induction fuel generalizing n with
  | zero => exact nextNumber_range n
  | succ fuel ih =>
    unfold freeNumber
    split
    · exact ih _
    · exact nextNumber_range n

theorem freeNumber_next {held : List HeldReport} {fuel n : Nat}
    (free : nextNumber n ∉ held.map fun h => h.report.shotNo) : freeNumber held (fuel + 1) n = nextNumber n := by
  refine if_neg fun met => free ?_
  obtain ⟨h, mem, same⟩ := List.any_eq_true.1 met
  exact List.mem_map.2 ⟨h, mem, beq_iff_eq.1 same⟩

/-! ## The cleared blocks (R22, R102, R127) -/

theorem Timer.edgeAtStart_none {m : Timer} (inputs : Bank Input 10) (start : Time) (none : m.lastActive = none) :
    m.edgeAtStart inputs start = Option.none := by
  unfold Timer.edgeAtStart
  rw [none]
  split
  case h_1 e => cases e
  case h_2 => rfl

/-- A cleared timer takes no edge at its start: no edge of the shot has been taken (R102, R108). -/
theorem Timer.begin_clear (m : Timer) (inputs : Bank Input 10) (amps : Bank Nat 10) (start : Time) :
    m.clear.begin inputs amps start = { m.clear with
      run := .running, start := some start, amps := some amps
      due := if m.cfg.timeout = 0 then none else some (after start (m.cfg.timeout * 1000)) } := by
  simp only [Timer.begin, Timer.clear, Timer.edgeAtStart_none]
  rfl

theorem startsInterrupted_iff (brk : Bank Breaker 2) (c : Channel) : startsInterrupted brk c = true ↔
    ∃ b, (brk.get b).cfg.enabled = true ∧ (brk.get b).cfg.startsOpen = true ∧
      inGroup (brk.get b).cfg.group (brk.get b).cfg.line c = true := by
  simp only [startsInterrupted, Bank.any_items, Bool.and_eq_true, and_assoc]

/-- The state in which everything but the entry of S0 has been set (R22, steps 1 to 3). -/
def readyShot (t0 : Time) (src : StartSource) (s : State) : State :=
  let s := clearShot (beginReport t0 src s)
  { s with seq := { s.seq with st := .running },
           clock := { s.clock with anchor := some t0, nextTick := t0 } }

theorem begunShot_eq (t0 : Time) (src : StartSource) (s : State) : begunShot t0 src s =
    enterState 0 (s.seq.record 0).rule.reset .start false false t0 (readyShot t0 src s) := rfl

theorem exec_shotStart {s : State} {t0 : Time} {src : StartSource} (up : s.power = .up) (armed : s.seq.st = .armed)
    (due : s.seq.startDue = some t0) (source : s.seq.source = some src) :
    exec .shotStart s = .next (if lockWaits s.tb t0 then s else startShot t0 src (s.advance t0)) := by
  refine congrArg Host.Outcome.next ((whenUp_up up).trans ?_)
  unfold shotStart
  rw [armed, due, source]

/-- Settles O38: the wait for the sync state, and the shot at t0. -/
theorem shotStartsAtT0 : Obligations.ShotStartsAtT0 := by
  intro s t0 src up armed due source room started waits
  have run := exec_shotStart up armed due source
  refine ⟨fun w => run.trans (congrArg Host.Outcome.next (if_pos ((lockWaits_iff s.tb t0).2 w))),
    fun free l latest later => ⟨fun locked => ?_, fun holdover => ?_⟩, fun free => ?_⟩
  · by_contra long
    exact free ⟨l, latest, .inl ⟨locked, atOrAfter_after (Nat.not_lt.1 long) later⟩⟩
  · by_contra long
    exact free ⟨l, latest, .inr ⟨holdover, atOrAfter_after (by omega) later⟩⟩
  · let u := readyShot t0 src (s.advance t0)
    let w := begunShot t0 src (s.advance t0)
    have entered : Entered 0 (s.seq.record 0).rule.reset .start false false t0 u w :=
      enterState_entered (s := u) _ _ _ _ _ _ rfl rfl
    have begun : w = { enteredBlocks 0 (s.seq.record 0).rule.reset t0 u with
        rep := { u.rep with fill := u.rep.fill.trailed (trailEntryOf 0 .start false false t0 u) } } :=
      enterState_filling (s := u) _ _ _ _ _ _ rfl
    have goes : ¬ lockWaits s.tb t0 = true := fun e => free ((lockWaits_iff s.tb t0).1 e)
    have number : freeNumber s.rep.held 16 s.seq.shotNo ∉ s.rep.numbers := freeNumber_free _ _ room
    refine ⟨u, autoStart t0 w, run.trans (congrArg Host.Outcome.next ?_), entered.timers _, ?_⟩
    · rw [if_neg goes, startShot_eq]
    have trg (i : TrigIdx) : (autoStart t0 w).trg.get i = { s.trg.get i with count := 0 } := Bank.get_map ..
    have brk (b : BreakerId) : (autoStart t0 w).brk.get b = (s.brk.get b).begin := Bank.get_map ..
    have thermal (o : CurrentOutlet) : (autoStart t0 w).sup.thermal.get o =
        { s.sup.thermal.get o with peak := usageOf s o } := Bank.get_mapIdx ..
    have ready (c : Channel) : u.syn.chans.get c =
        (s.syn.chans.get c).begin (startsInterrupted s.brk c) := Bank.get_mapIdx ..
    have chan (c : Channel) : (autoStart t0 w).syn.chans.get c =
        (u.syn.chans.get c).load (s.seq.record 0).rule.reset ((s.seq.record 0).chans.get c) := Bank.get_mapIdx ..
    have timer (m : TimerId) : (autoStart t0 w).tmr.get m =
        if (s.tmr.get m).cfg.enabled && (s.tmr.get m).cfg.auto then
          (s.tmr.get m).clear.begin w.inp (liveAmps w) t0 else (s.tmr.get m).clear := by
      refine (Bank.get_map ..).trans ?_
      rw [show w.tmr.get m = (s.tmr.get m).clear from Bank.get_map ..]
      rfl
    refine ⟨rfl, (congrArg State.rep begun).trans ?_, rfl, fun _ => rfl, ?_, rfl, rfl, rfl, rfl, rfl, rfl, rfl, rfl,
      source, rfl, (freeNumber_range _ _ _).1, (freeNumber_range _ _ _).2, number, fun below next => ?_, rfl,
      fun i => ?_, fun b => ?_, fun k => Bank.get_map .., fun c => ?_, fun o => ?_, fun m => ?_, rfl, rfl, rfl, rfl,
      rfl⟩
    · show ({ u.rep with fill := u.rep.fill.trailed { trailEntryOf 0 .start false false t0 u with
        time := relative t0 t0 } } : ReportStore) = _
      rw [relative_self]
      rfl
    · refine Bank.ext_get fun c => ?_
      rw [Bank.get_map, Bank.get_map, ready]
      rfl
    · have following : nextNumber s.seq.shotNo = s.seq.shotNo + 1 := if_neg (by omega)
      exact (freeNumber_next (held := s.rep.held) (n := s.seq.shotNo) (by rw [following]; exact next)).trans
        following
    · rw [trg]
      exact ⟨rfl, rfl⟩
    · rw [brk]
      exact ⟨rfl, rfl, rfl, rfl, fun enabled => if_pos enabled⟩
    · rw [chan, ready]
      show (if startsInterrupted s.brk c then Silence.interrupted else .clear) = _
      simp only [startsInterrupted_iff]
    · rw [thermal]
      exact ⟨rfl, rfl⟩
    · by_cases auto : (s.tmr.get m).cfg.enabled = true ∧ (s.tmr.get m).cfg.auto = true
      · rw [timer, if_pos (by rwa [Bool.and_eq_true]), Timer.begin_clear]
        refine ⟨rfl, rfl, rfl, rfl, rfl, rfl, rfl, fun _ => ⟨rfl, rfl, rfl⟩, fun no => ?_⟩
        simp [auto.1, auto.2] at no
      · rw [timer, if_neg (by rwa [Bool.and_eq_true])]
        exact ⟨rfl, rfl, rfl, rfl, rfl, rfl, rfl, fun yes => absurd yes auto, fun _ => ⟨rfl, rfl⟩⟩

end Sys2Proof.Machine
end

section
/-! PROOFS. The states in a shot: the expiry of a duration, the ramp steps, and the entry of a pending
transition (R6, R7, R24 to R30, R47, R48, R139). -/

namespace Sys2Proof.Machine

/-! ## Durations (R24 to R26) -/

namespace StateRecord
variable {r : StateRecord} {i : StateIdx}

theorem ruleFrom_exception {e : ArrivalException} (mem : e ∈ r.exceptions) (names : e.source = i)
    (distinct : (r.exceptions.map fun x => x.source).Nodup) : r.ruleFrom i = e.rule := by
  unfold ruleFrom
  cases found : r.exceptions.find? fun e => e.source == i with
  | none =>
    have := List.find?_eq_none.1 found e mem
    simp [names] at this
  | some x =>
    have source : x.source = e.source := by
      have := List.find?_some found
      rw [names]
      exact beq_iff_eq.1 this
    rw [List.inj_on_of_nodup_map distinct (List.mem_of_find?_eq_some found) mem source]

theorem ruleFrom_default (none : ∀ e ∈ r.exceptions, e.source ≠ i) : r.ruleFrom i = r.rule := by
  unfold ruleFrom
  rw [List.find?_eq_none.2 fun e mem => by simpa using none e mem]

end StateRecord

theorem exec_durationExpiry {s : State} {d : Time} (up : s.power = .up) (running : s.seq.st = .running)
    (due : s.seq.durationDue = some d) :
    exec .durationExpiry s = .next (if stepWaits s.seq d then s else expire d (s.advance d)) := by
  refine congrArg Host.Outcome.next ((whenUp_up up).trans ?_)
  unfold durationExpiry
  rw [running, due]

section
variable {s : State} {i : StateIdx} (d : Time)

theorem expire_superseded (pending : s.seq.pend ≠ none) :
    expire d s = markSuperseded { s with seq := { s.seq with durationDue := none } } := by
  obtain ⟨p, hp⟩ := Option.ne_none_iff_exists'.1 pending
  unfold expire
  dsimp only
  rw [hp]

theorem expire_end (free : s.seq.pend = none) (inForce : s.seq.inForce = some i)
    (end_ : (s.seq.record i).next = none) :
    expire d s = ({ s with seq := { s.seq with durationDue := none } } : State).softStop .complete d := by
  unfold expire
  dsimp only
  split
  case h_1 p pending => rw [free] at pending; cases pending
  case h_2 =>
    have named : (s.seq.record (s.seq.inForce.getD 0)).next = none := by rw [inForce]; exact end_
    split
    case h_1 target' e => cases named.symm.trans e
    case h_2 e => rfl

theorem expire_next {target : StateIdx} (free : s.seq.pend = none) (inForce : s.seq.inForce = some i)
    (next : (s.seq.record i).next = some target) :
    expire d s = ({ s with seq := { s.seq with durationDue := none } } : State).request target .expiry d := by
  unfold expire
  dsimp only
  split
  case h_1 p pending => rw [free] at pending; cases pending
  case h_2 =>
    have named : (s.seq.record (s.seq.inForce.getD 0)).next = some target := by rw [inForce]; exact next
    split
    case h_1 target' e => cases named.symm.trans e; rfl
    case h_2 e => cases named.symm.trans e

end

/-- Settles O39, by what waits and by what the expired state names. -/
theorem durationsExpire : Obligations.DurationsExpire := by
  intro s d i up running due inForce waits u
  have run := exec_durationExpiry up running due
  have goes (free : ¬ waits) : exec .durationExpiry s = .next (expire d (s.advance d)) :=
    run.trans (congrArg Host.Outcome.next (if_neg fun w => free ((stepWaits_iff s.seq d).1 w)))
  refine ⟨fun w => run.trans (congrArg Host.Outcome.next (if_pos ((stepWaits_iff s.seq d).2 w))),
    fun free pending => ?_, fun free none end_ => ?_, fun target free none next => ?_⟩
  · exact (goes free).trans (congrArg Host.Outcome.next (expire_superseded (s := s.advance d) d pending))
  · intro v
    refine (goes free).trans (congrArg Host.Outcome.next
      ((expire_end (s := s.advance d) d none inForce end_).trans ((State.softStop_eq u _ d).trans ?_)))
    dsimp only [v, u, State.advance]
    rw [none]
  · have source : u.seq.inForce.getD target = i := by
      show s.seq.inForce.getD target = i
      rw [inForce]
      rfl
    refine ⟨u.pendingFor target i .expiry d, ?_, rfl, rfl, rfl, rfl, rfl,
      fun e mem names distinct => StateRecord.ruleFrom_exception mem names distinct,
      fun none => StateRecord.ruleFrom_default none, fun mode => ?_, fun mode => ?_, fun c a mode => ⟨?_, ?_⟩⟩
    · refine (goes free).trans (congrArg Host.Outcome.next
        ((expire_next (s := s.advance d) d none inForce next).trans ?_))
      show u.request target .expiry d = _
      unfold State.request
      rw [source]
    · exact congrArg (·.deadline d) mode
    · exact congrArg (·.deadline d) mode
    · exact congrArg (·.deadline d) mode
    · show (u.pendingFor target i .expiry d).rule.mode.untestable s.syn.chans = true ↔ _
      rw [mode]
      exact Chan.idle_iff _

/-! ## Ramps (R7, R30) -/

theorem stepWithin_eq (limit v : Nat) (step : Int) :
    (stepWithin limit v step : Int) = max 0 (min (limit : Int) (v + step)) :=
  Int.toNat_of_nonneg (le_max_left _ _)

theorem stepSaturates_iff (limit v : Nat) (step : Int) :
    stepSaturates limit v step = true ↔ (v : Int) + step < 0 ∨ (limit : Int) < v + step := by
  simp [stepSaturates]

/-- The channels behind a ramp step. -/
def steppedChans (p : Ramp) (chans : Bank Chan 10) : Bank Chan 10 :=
  chans.mapIdx fun c x => if p.chans.get c then x.step (ampLimit c) p.quantity p.step else x

theorem steppedChans_get (p : Ramp) (chans : Bank Chan 10) (c : Channel) : (steppedChans p chans).get c =
    if p.chans.get c then (chans.get c).step (ampLimit c) p.quantity p.step else chans.get c :=
  Bank.get_mapIdx ..

/-- The synthesizer behind a ramp step: an AMPLITUDE step derives the outlets anew. -/
def steppedSynth (p : Ramp) (s : State) : Synth :=
  let y := { s.syn with chans := steppedChans p s.syn.chans }
  if p.quantity = .amplitude then deriveOutlets (s.seq.st == .running) s.cal.working y else y

theorem stepChannels_eq (p : Ramp) (s : State) : stepChannels p s =
    ({ s with syn := steppedSynth p s } : State).flag fun f =>
      { f with rampLimit := f.rampLimit || rampSaturates p s.syn.chans } := by
  obtain ⟨chans, quantity, step, dwell, count⟩ := p
  cases quantity <;> rfl

theorem steppedSynth_chans (p : Ramp) (s : State) :
    (steppedSynth p s).chans = steppedChans p s.syn.chans := by
  unfold steppedSynth
  dsimp only
  split <;> rfl

/-- The channel is held at a limit by the step (R30). -/
theorem rampSaturates_iff (p : Ramp) (chans : Bank Chan 10) : rampSaturates p chans = true ↔
    ∃ c : Channel, p.chans.get c = true ∧
      (p.quantity = .amplitude ∧ (((chans.get c).amp : Int) + p.step < 0 ∨
          (ampLimit c : Int) < (chans.get c).amp + p.step) ∨
       p.quantity = .frequency ∧ (((chans.get c).freq : Int) + p.step < 0 ∨
          1000000 < ((chans.get c).freq : Int) + p.step)) := by
  simp only [rampSaturates, List.any_eq_true, List.mem_finRange, true_and, Bool.and_eq_true]
  refine exists_congr fun c => and_congr_right fun _ => ?_
  unfold Chan.saturates
  cases p.quantity <;> simp [stepSaturates_iff]

/-- The state behind a ramp step, before its events. -/
def rampStepped (p : Ramp) (d : Time) (s : State) : State :=
  let s := stepChannels p s
  let n := s.seq.rampSteps + 1
  { s with seq := { s.seq with
    rampSteps := n, dwellDue := if n = p.count then none else some (after d (p.dwell * 1000)) } }

theorem rampStepped_eq (p : Ramp) (d : Time) (s : State) : rampStepped p d s = { s with
    syn := steppedSynth p s
    seq := { s.seq with
      rampSteps := s.seq.rampSteps + 1
      dwellDue := if s.seq.rampSteps + 1 = p.count then none else some (after d (p.dwell * 1000)) }
    rep := (stepChannels p s).rep } := by
  unfold rampStepped
  rw [stepChannels_eq, State.flag, State.write_eq]

theorem rampStepAt_eq (p : Ramp) (d : Time) (s : State) : rampStepAt p d s =
    let v := route { kind := .rampStep, time := d, routed := d } (rampStepped p d s)
    if s.seq.rampSteps + 1 = p.count then route { kind := .rampEnd, time := d, routed := d } v else v := by
  have steps : (stepChannels p s).seq = s.seq := by
    rw [stepChannels_eq, State.flag, State.write_eq]
  unfold rampStepAt rampStepped
  dsimp only
  simp only [steps, decide_eq_true_eq]

theorem exec_rampStep {s : State} {d : Time} {i : StateIdx} {p : Ramp} (up : s.power = .up)
    (running : s.seq.st = .running) (due : s.seq.dwellDue = some d) (inForce : s.seq.inForce = some i)
    (ramp : (s.seq.record i).ramp = some p) : exec .rampStep s = .next (rampStepAt p d (s.advance d)) := by
  refine congrArg Host.Outcome.next ((whenUp_up up).trans ?_)
  have live : s.seq.ramp = some p := by rw [Sequencer.ramp, inForce, Option.bind_some, ramp]
  unfold rampStep
  rw [running, due, live]

theorem ampLimit_eq (c : Channel) : (ampLimit c : Int) = if c.val < 4 then 30000 else 50000 := by
  unfold ampLimit
  split <;> rfl

/-- Settles O40: the step of each channel, its limits, and the events. -/
theorem rampsStep : Obligations.RampsStep := by
  intro s d i p up running due inForce ramp n stepEvent endEvent limit held
  have run := (exec_rampStep up running due inForce ramp).trans
    (congrArg Host.Outcome.next (rampStepAt_eq p d (s.advance d)))
  have frame := rampStepped_eq p d (s.advance d)
  have chan (c : Channel) : (rampStepped p d (s.advance d)).syn.chans.get c = if p.chans.get c then
      (s.syn.chans.get c).step (ampLimit c) p.quantity p.step else s.syn.chans.get c := by
    rw [frame, ← steppedChans_get]
    exact congrArg (·.get c) (steppedSynth_chans p (s.advance d))
  refine ⟨rampStepped p d (s.advance d), fun more => run.trans (congrArg Host.Outcome.next (if_neg more)),
    fun last => run.trans (congrArg Host.Outcome.next (if_pos last)), ?_, ?_, ?_, fun filling => ?_,
    fun c out => ?_,
    fun c mem amplitude => ?_, fun c mem phase => ?_, fun c mem frequency => ?_, ?_, ?_⟩
  · rw [frame]; rfl
  · rw [frame]; rfl
  · rw [frame]; rfl
  · rw [frame]
    show (stepChannels p (s.advance d)).rep.fill.flags.rampLimit = true ↔ _
    rw [stepChannels_eq, State.flag, write_filling (by exact filling)]
    show (s.rep.fill.flags.rampLimit || rampSaturates p s.syn.chans) = true ↔ _
    rw [Bool.or_eq_true, rampSaturates_iff]
    simp only [ampLimit_eq]
    rfl
  · rw [chan, out]
    rfl
  · rw [chan, mem, amplitude]
    exact ⟨(stepWithin_eq _ _ _).trans (by rw [ampLimit_eq]), rfl⟩
  · rw [chan, mem, phase]
    exact ⟨Int.toNat_of_nonneg (Int.emod_nonneg _ (by decide)), rfl⟩
  · rw [chan, mem, frequency]
    exact ⟨stepWithin_eq 1000000 _ _, rfl⟩
  · rw [frame]
    show steppedSynth p (s.advance d) = _
    have driving : (s.seq.st == .running) = true := by rw [running]; rfl
    rw [steppedSynth_chans]
    unfold steppedSynth
    dsimp only [State.advance]
    rw [driving]
  · rw [frame]
    exact ⟨rfl, inForce, rfl, rfl, rfl, rfl, rfl, rfl⟩

/-! ## Transitions (R26 to R29, R139) -/

section
variable {s : State} {p : Pending} (up : s.power = .up) (running : s.seq.st = .running)
  (pending : s.seq.pend = some p)
include up running pending

theorem exec_transitionEntry_waits (waits : entryOf s p = none) : exec .transitionEntry s = .next s := by
  refine congrArg Host.Outcome.next ((whenUp_up up).trans ?_)
  unfold transitionEntry
  rw [running, pending]
  dsimp only
  rw [waits]

theorem exec_transitionEntry {tick : Time} {a m : Bool} (due : entryOf s p = some (tick, a, m)) :
    exec .transitionEntry s =
      .next (if entryMayGo s.seq tick then takeEntry p tick a m (s.advance tick) else s) := by
  refine congrArg Host.Outcome.next ((whenUp_up up).trans ?_)
  unfold transitionEntry
  rw [running, pending]
  dsimp only
  rw [due]

end

/-- The instant and the flags of the entry, for each mode (R26, R27, R139). -/
theorem entryOf_immediate {s : State} {p : Pending} (mode : p.rule.mode = .immediate) :
    entryOf s p = some (tickAfter s.clock.anchor p.request, false, false) := by
  unfold entryOf
  rw [mode]

theorem entryOf_pulse {s : State} {p : Pending} {t : Time} (mode : p.rule.mode = .atPps)
    (pulse : p.pulse = some t) : entryOf s p = some (tickAtOrAfter s.clock.anchor t, false, false) := by
  unfold entryOf
  rw [mode]
  dsimp only
  rw [pulse]

theorem entryOf_missedPulse {s : State} {p : Pending} (mode : p.rule.mode = .atPps) (pulse : p.pulse = none) :
    entryOf s p = some (tickAfter s.clock.anchor (after p.request 1000200), false, true) := by
  unfold entryOf
  rw [mode]
  dsimp only
  rw [pulse]

theorem entryOf_untestable {s : State} {p : Pending} {c : Channel} {a : Nat} (mode : p.rule.mode = .atAngle c a)
    (untestable : p.untestable = true) :
    entryOf s p = some (tickAfter s.clock.anchor p.request, true, false) := by
  unfold entryOf
  rw [mode]
  exact if_pos untestable

theorem entryOf_angle {s : State} {p : Pending} {c : Channel} {a : Nat} (mode : p.rule.mode = .atAngle c a)
    (testable : p.untestable = false) : entryOf s p =
      if isAfter p.request (tickDue s) = false then none
      else if crossesAngle (s.syn.chans.get c) a then some (tickDue s, false, false)
      else if atOrAfter (after p.request 1000000) (tickDue s) then some (tickDue s, true, false)
      else none := by
  unfold entryOf
  rw [mode]
  dsimp only
  rw [testable, if_neg (by decide)]
  simp only [Bool.not_eq_true']

/-- Settles O41: when the entry is due in each mode, and what it carries out. -/
theorem transitionsAreTaken : Obligations.TransitionsAreTaken := by
  intro s p old up running pending inForce filling grid waits taken target
  have takes {tick : Time} {a m : Bool} (due : entryOf s p = some (tick, a, m)) : taken tick a m := by
    have run := exec_transitionEntry up running pending due
    have may := entryMayGo_iff s.seq tick
    refine ⟨fun w => run.trans (congrArg Host.Outcome.next (if_neg fun go => may.1 go w)), fun free =>
      ⟨enterState p.target p.rule.reset p.cause a m tick (s.advance tick), ?_,
        enterState_entered (s := s.advance tick) _ _ _ _ _ _ running filling, ?_⟩⟩
    · refine run.trans (congrArg Host.Outcome.next ((if_pos (may.2 free)).trans ?_))
      have from_ : (s.advance tick).seq.inForce.getD p.target = old := by
        rw [State.advance_seq, inForce]
        rfl
      unfold takeEntry
      rw [from_]
    · rw [enterState_filling (s := s.advance tick) _ _ _ _ _ _ filling]
      refine ⟨rfl, running, fun c => ?_, rfl, rfl, rfl, rfl, rfl, rfl, rfl, rfl⟩
      exact (congrArg Chan.status (enteredBlocks_chan p.target p.rule.reset tick (s.advance tick) c)).trans rfl
  have crosses (c : Channel) (a : Nat) : crossesAngle (s.syn.chans.get c) a = true ↔ target a (s.syn.chans.get c) :=
    (crossesAngle_iff _ _).trans and_assoc
  refine ⟨fun mode => takes (entryOf_immediate mode), fun t mode pulse => takes (entryOf_pulse mode pulse),
    fun mode none => takes (entryOf_missedPulse mode none), fun c a mode => ⟨fun untestable =>
      takes (entryOf_untestable mode untestable), fun testable later => ⟨fun hit => takes ?_, fun miss late =>
      takes ?_, fun miss early => exec_transitionEntry_waits up running pending ?_⟩, fun testable early =>
      exec_transitionEntry_waits up running pending ?_⟩⟩
  · rw [entryOf_angle mode testable, if_neg (by simp [later]), if_pos ((crosses c a).2 hit)]
  · rw [entryOf_angle mode testable, if_neg (by simp [later]), if_neg fun e => miss ((crosses c a).1 e),
      if_pos late]
  · rw [entryOf_angle mode testable, if_neg (by simp [later]), if_neg fun e => miss ((crosses c a).1 e),
      if_neg (by simp [early])]
  · rw [entryOf_angle mode testable, if_pos early]

end Sys2Proof.Machine
end

section
/-! PROOFS. The end of a shot: hard stops, the length limit, the forced cut, the tail, and what finalization
records (R31, R33 to R37, R57, R58, R113, R158, R159, R161). -/

namespace Sys2Proof.Machine

/-! ## Hard stops (R34 to R36, R58) -/

/-- A further cause joins the causes once, in the report too (R35). -/
theorem addFurther_eq (s : State) (c : HardCause) : s.addFurther c = { s with
    seq := { s.seq with further := if c ∈ s.seq.further then s.seq.further else s.seq.further ++ [c] }
    rep := { s.rep with fill := if c ∉ s.seq.further ∧ s.rep.cur = .filling then
      { s.rep.fill with further := s.seq.further ++ [c] } else s.rep.fill } } := by
  unfold State.addFurther
  by_cases known : c ∈ s.seq.further
  · rw [if_pos (List.contains_iff_mem.2 known), if_pos known, if_neg fun new => new.1 known]
  · rw [if_neg fun e => known (List.contains_iff_mem.1 e), if_neg known, State.write_eq]
    by_cases filling : s.rep.cur = .filling
    · rw [if_pos filling, if_pos ⟨known, filling⟩]
    · rw [if_neg filling, if_neg fun new => filling new.2]

theorem recordEnd_eq (s : State) (r : EndReason) (t : Time) : s.recordEnd r t = { s with
    seq := { s.seq with endReason := some r, stopBegin := t }
    rep := { s.rep with fill := if s.rep.cur = .filling then
      { s.rep.fill with endReason := some r, stopBegin := relative s.seq.t0 t } else s.rep.fill } } := by
  unfold State.recordEnd
  rw [State.write_eq]

section
variable {s : State} (c : HardCause) (t : Time)

theorem hardStop_running (running : s.seq.st = .running) : s.hardStop c t =
    ({ (s.recordEnd (.hard c) t).mute with seq := (s.recordEnd (.hard c) t).seq.halt } : State).enterTail t := by
  unfold State.hardStop
  rw [running]
  rfl

theorem hardStop_stopping (stopping : s.seq.st = .stopping) :
    s.hardStop c t = (s.addFurther c).mute.enterTail t := by
  unfold State.hardStop
  rw [stopping]

theorem hardStop_tail (tail : s.seq.st = .tail) : s.hardStop c t = s.addFurther c := by
  unfold State.hardStop
  rw [tail]

theorem hardStop_outside (outside : s.seq.st.inShot = false) : s.hardStop c t = s := by
  unfold State.hardStop
  split
  case h_1 e => rw [e] at outside; cases outside
  case h_2 e => rw [e] at outside; cases outside
  case h_3 e => rw [e] at outside; cases outside
  all_goals rfl

/-- A hard stop touches the sequencer, the synthesizer, the outputs and the report being filled alone. -/
theorem hardStop_frame (s : State) : s.hardStop c t = { s with
    seq := (s.hardStop c t).seq
    syn := (s.hardStop c t).syn
    out := (s.hardStop c t).out
    rep := { s.rep with fill := (s.hardStop c t).rep.fill } } := by
  unfold State.hardStop
  split
  · rw [recordEnd_eq]; rfl
  · rw [addFurther_eq]; rfl
  · rw [addFurther_eq]
  all_goals rfl

end

/-- Outside RUNNING and STOPPING the outputs of the sequence are open (R129). -/
theorem refreshOutputs_rest {u : State} (quiet : u.seq.st.driving = false) (o : BoutId)
    (owned : (u.refreshOutputs.out.get o).owner = .sequence) : (u.refreshOutputs.out.get o).closed = false := by
  rw [State.refreshOutputs_out] at owned ⊢
  rw [outputNow_sequence owned, patternCloses, quiet, Bool.false_and]

/-- Settles O42, by the sequencer state. -/
theorem hardStopsMuteAtOnce : Obligations.HardStopsMuteAtOnce := by
  intro s c t v further cut
  have frame := hardStop_frame c t s
  have muted {u : State} (e : v = u.enterTail t) (header : u.seq.header = s.seq.header)
      (stopped : ∀ i, (u.syn.chans.get i).status = .stopped) (silent : ∀ o, u.syn.dac.get o = 0) : cut := by
    refine ⟨by rw [e]; rfl, ?_, by rw [e]; exact stopped, by rw [e]; exact silent, fun o owned => ?_⟩
    · rw [e, ← header]; rfl
    · rw [e] at owned ⊢
      exact refreshOutputs_rest rfl o owned
  have mutes (u : State) : (∀ i, (u.mute.syn.chans.get i).status = .stopped) ∧ ∀ o, u.mute.syn.dac.get o = 0 :=
    ⟨fun i => (congrArg Chan.status (Bank.get_map ..)).trans rfl, fun o => Bank.get_fill ..⟩
  refine ⟨fun running => ?_, fun stopping => ?_, fun tail => ?_, fun ending filling => ?_,
    hardStop_outside c t, ?_⟩
  · have e : v = _ := hardStop_running c t running
    rw [recordEnd_eq] at e
    refine ⟨muted e rfl (mutes _).1 (mutes _).2, by rw [e]; rfl, by rw [e]; rfl, by rw [e]; rfl, by rw [e]; rfl,
      by rw [e]; rfl, by rw [e]; rfl, fun filling => ?_⟩
    rw [e]
    exact if_pos filling
  · have e : v = _ := hardStop_stopping c t stopping
    rw [addFurther_eq] at e
    exact ⟨muted e rfl (mutes _).1 (mutes _).2, by rw [e]; rfl, by rw [e]; rfl, by rw [e]; rfl⟩
  · have e : v = _ := hardStop_tail c t tail
    rw [addFurther_eq] at e
    exact ⟨by rw [e], by rw [e], by rw [e]⟩
  · have fill : v.rep = { s.rep with fill := if c ∉ s.seq.further ∧ s.rep.cur = .filling then
        { s.rep.fill with further := s.seq.further ++ [c] } else s.rep.fill } := by
      rcases ending with stopping | tail
      · have e : v = _ := hardStop_stopping c t stopping
        rw [addFurther_eq] at e
        rw [e]
        rfl
      · have e : v = _ := hardStop_tail c t tail
        rw [addFurther_eq] at e
        rw [e]
    refine ⟨fun known => ?_, fun new => ?_⟩
    · rw [fill, if_neg fun e => e.1 known]
    · rw [fill]
      exact if_pos ⟨new, filling⟩
  · rw [show v = _ from frame]
    exact ⟨rfl, rfl, rfl, rfl, rfl, rfl, rfl, rfl⟩

/-! ## The length limit, the forced cut and the tail (R31, R33, R36) -/

/-- The length limit, with its instant named. -/
theorem exec_lengthLimit {s : State} (up : s.power = .up) (running : s.seq.st = .running) {d : Time}
    (hd : d = after s.seq.t0 Config.reportLimit) : exec .lengthLimit s =
      .next (if workWaits s d then s else (s.advance d).softStop .lengthLimit d) :=
  congrArg Host.Outcome.next ((whenUp_up up).trans (lengthLimit_running running d hd))

theorem someStopPending_iff (y : Synth) :
    y.someStopPending = true ↔ ∃ c, (y.chans.get c).status = .stopPending := by
  rw [Synth.someStopPending, Bank.any_items]
  simp only [beq_iff_eq]

theorem Chan.cut_eq (c : Chan) : c.cut =
    { c with status := if c.status = .stopPending then .stopped else c.status } := by
  unfold Chan.cut
  split
  case h_1 pending => rw [if_pos pending]
  all_goals rename_i other; rw [if_neg (by rw [other]; decide)]

theorem cutAt_eq (tick : Time) (s : State) : cutAt tick s = ({ s with
    syn := ({ s.syn with chans := s.syn.chans.map Chan.cut } : Synth).quiet
    rep := { s.rep with fill := if s.rep.cur = .filling then
      { s.rep.fill with flags := { s.rep.fill.flags with stopForced := true } } else s.rep.fill } } :
    State).enterTail tick := by
  unfold cutAt State.flag
  dsimp only
  rw [State.write_eq]

/-- The state that a soft stop at the length limit leaves (R31, R32), with its instant named. -/
def State.limited (d : Time) (s : State) : State :=
  ({ s.advance d with
    seq := { s.seq with st := .stopping, endReason := some .lengthLimit, stopBegin := d,
                        pend := none, durationDue := none, dwellDue := none }
    syn := { s.syn with chans := s.syn.chans.map (Chan.stopRequest d) } } : State).write fun r =>
      { r with endReason := some .lengthLimit, stopBegin := relative s.seq.t0 d }

/-- The length limit waits for the sequencer's own work of its instant (R31). -/
theorem exec_lengthLimit_cases {s : State} (up : s.power = .up) (running : s.seq.st = .running) {d : Time}
    (hd : d = after s.seq.t0 Config.reportLimit) {waits : Prop} (work : workWaits s d = true ↔ waits) :
    (waits → exec .lengthLimit s = .next s) ∧ (¬ waits → exec .lengthLimit s = .next (s.limited d)) :=
  have run := exec_lengthLimit up running hd
  ⟨fun w => run.trans (congrArg Host.Outcome.next (if_pos (work.2 w))),
    fun free => run.trans (congrArg Host.Outcome.next ((if_neg fun w => free (work.1 w)).trans
      (State.softStop_eq (s.advance d) _ _)))⟩

theorem exec_forcedCut {s : State} (up : s.power = .up) (stopping : s.seq.st = .stopping)
    (pending : ∃ c, (s.syn.chans.get c).status = .stopPending) :
    exec .forcedCut s = .next (cutAt (cutTick s) (s.advance (cutTick s))) := by
  refine congrArg Host.Outcome.next ((whenUp_up up).trans ?_)
  unfold forcedCut
  rw [stopping]
  exact if_pos ((someStopPending_iff s.syn).2 pending)

/-- Settles O43: the length limit, the forced cut and the expiry of the tail. -/
theorem shotsEnd : Obligations.ShotsEnd := by
  intro s up
  refine ⟨fun running => ?_, fun other => ?_, fun stopping pending => ?_, fun d tail due => ?_⟩
  · exact exec_lengthLimit_cases up running
      (congrArg (after s.seq.t0) (show 4000000000 = Config.reportLimit from rfl))
      ((workWaits_iff s _).trans (and_iff_right running))
  · exact congrArg Host.Outcome.next ((whenUp_up up).trans (lengthLimit_of_not other))
  · intro tick
    refine ⟨_, exec_forcedCut up stopping pending, ?_⟩
    rw [cutAt_eq]
    refine ⟨rfl, fun c => ?_, fun o => Bank.get_fill .., fun o owned => refreshOutputs_rest rfl o owned,
      fun filling => if_pos filling, rfl, rfl, rfl, rfl, rfl, rfl⟩
    exact (Bank.get_map ..).trans (Chan.cut_eq _)
  · refine congrArg Host.Outcome.next ((whenUp_up up).trans ?_)
    unfold tailExpiry
    rw [tail, due]

/-! ## Finalization (R37) -/

/-- The grades do not see the pulse that the closing of a timer discards. -/
theorem gradeOne_close (curves : Bank (Option (List Point)) 4) (tmr : Bank Timer 8) (i : GradeId) (g : Grade) :
    gradeOne curves (tmr.map Timer.close) i g = gradeOne curves tmr i g := by
  unfold gradeOne
  rw [Bank.get_map]
  rfl

theorem gradeOne_grade (curves : Bank (Option (List Point)) 4) (tmr : Bank Timer 8) (i : GradeId) (g : Grade) :
    (gradeOne curves tmr i g).grade = i := by
  unfold gradeOne
  dsimp only
  split <;> rfl

theorem mem_gradeAll (s : State) (e : GradeEntry) : e ∈ gradeAll s ↔
    ∃ i g, s.rep.grades.get i = some g ∧ gradeOne s.rep.curves s.tmr i g = e := by
  simp [gradeAll]

theorem gradeAll_ascending (s : State) : ((gradeAll s).map fun e => e.grade).Pairwise (· < ·) := by
  rw [List.pairwise_map, gradeAll, List.pairwise_filterMap]
  refine (List.sortedLT_finRange 8).pairwise.imp fun {i j} below a ha b hb => ?_
  obtain ⟨g, -, rfl⟩ := Option.map_eq_some_iff.1 ha
  obtain ⟨g', -, rfl⟩ := Option.map_eq_some_iff.1 hb
  rwa [gradeOne_grade, gradeOne_grade]

theorem Bank.getElem?_items {α : Type} {n : Nat} (b : Bank α n) (i : Fin n) : b.items[i.val]? = some (b.get i) :=
  List.getElem?_eq_getElem (by rw [b.size]; exact i.isLt)

theorem finalize_brk (t : Time) (s : State) : (finalize t s).brk = s.brk.map Breaker.settle := by
  simp [finalize, leaveTail, holdReport, writeGrades, closeTimers]

/-- Settles O44: the report that is held, and what the blocks keep. -/
theorem finalizationHoldsTheReport : Obligations.FinalizationHoldsTheReport := by
  intro s t filling v
  have rep : v.rep = _ := finalize_rep t filling
  have seq : v.seq = _ := finalize_seq t s
  refine ⟨⟨finalReport t s, by rw [rep], rfl, Bank.size _, Bank.size _, fun m => ?_, fun i g filled => ?_,
    fun e mem => ?_, gradeAll_ascending _, fun k => ⟨Bank.get_map .., ?_⟩, fun o => Bank.get_map ..⟩,
    by rw [rep], finalize_link t s, seq, fun b => ?_, fun o owned => ?_, ?_⟩
  · refine ⟨_, (Bank.getElem?_items _ m).trans (congrArg some (Bank.get_map ..)), rfl, rfl, rfl, rfl, rfl, rfl, ?_⟩
    show (s.tmr.get m).outcome = _
    unfold Timer.outcome
    exact if_congr (by rw [Bool.not_eq_true']) rfl rfl
  · refine (mem_gradeAll _ _).2 ⟨i, g, filled, gradeOne_close _ _ _ _⟩
  · obtain ⟨i, g, filled, rfl⟩ := (mem_gradeAll _ _).1 mem
    exact ⟨g, by rw [gradeOne_grade]; exact filled⟩
  · exact ⟨_, (Bank.getElem?_items _ k).trans (congrArg some (Bank.get_map ..)), rfl, rfl, rfl⟩
  · rw [show v.brk = _ from finalize_brk t s, Bank.get_map]
    exact ⟨rfl, rfl, fun enabled => if_pos enabled⟩
  · exact refreshOutputs_rest (u := { holdReport t (writeGrades (closeTimers s)) with
      brk := _, seq := { Sequencer.endContext _ with st := .ready } }) rfl o owned
  · rw [rep]
    refine ⟨?_, ?_, ?_, ?_, ?_, rfl, rfl⟩ <;>
      simp [v, finalize, leaveTail, holdReport, writeGrades, closeTimers]

end Sys2Proof.Machine
end

section
/-! PROOFS. Grading: the expected time on a characteristic, the band and the verdict (R165 to R167). -/

namespace Sys2Proof.Machine

/-! ## Curves (R166) -/

/-- The multiples of a list of points rise. -/
def Rising (points : List Point) : Prop := points.Pairwise fun p q => p.m < q.m

theorem Rising.head_le {p q : Point} {rest : List Point} (h : Rising (p :: rest)) (mem : q ∈ p :: rest) :
    p.m ≤ q.m := by
  rcases List.mem_cons.1 mem with rfl | mem
  · exact le_rfl
  · exact ((List.pairwise_cons.1 h).1 q mem).le

theorem curveTime_last {p l : Point} {rest : List Point} {m : Nat} (h : Rising (p :: rest))
    (last : (p :: rest).getLast? = some l) (above : l.m ≤ m) : curveTime p m rest = l.t := by
  induction rest generalizing p with
  | nil =>
    cases last
    rfl
  | cons q rest ih =>
    have tail : Rising (q :: rest) := (List.pairwise_cons.1 h).2
    have last' : (q :: rest).getLast? = some l := by simpa using last
    have reached : q.m ≤ m := (tail.head_le (List.mem_of_getLast? last')).trans above
    rw [curveTime, if_pos reached]
    exact ih tail last'

theorem curveTime_segment {p₀ p q : Point} {rest : List Point} {m k : Nat} (h : Rising (p₀ :: rest))
    (from_ : (p₀ :: rest)[k]? = some p) (to_ : (p₀ :: rest)[k + 1]? = some q) (above : p.m ≤ m) (below : m < q.m) :
    curveTime p₀ m rest = interpolate p q m := by
  induction rest generalizing p₀ k with
  | nil => simp at to_
  | cons r rest ih =>
    cases k with
    | zero =>
      obtain rfl : p₀ = p := by simpa using from_
      obtain rfl : r = q := by simpa using to_
      rw [curveTime, if_neg (Nat.not_le.2 below)]
    | succ k =>
      have tail : Rising (r :: rest) := (List.pairwise_cons.1 h).2
      have here : (r :: rest)[k]? = some p := by simpa using from_
      have reached : r.m ≤ m := (tail.head_le (List.mem_of_getElem? here)).trans above
      rw [curveTime, if_pos reached]
      exact ih tail here (by simpa using to_)

/-- A value of at most `b` units rounds to at most `b`. -/
theorem roundHalfUp_le {n d b : Nat} (pos : 0 < d) (bound : n ≤ b * d) : roundHalfUp n d ≤ b := by
  unfold roundHalfUp
  refine Nat.lt_succ_iff.1 ((Nat.div_lt_iff_lt_mul (by omega)).2 ?_)
  have unit : b.succ * (2 * d) = 2 * (b * d) + 2 * d := by rw [Nat.succ_eq_add_one]; ring
  omega

/-- The interpolated time is the rounded one: it never falls below 0 (R166). -/
theorem interpolate_eq {p q : Point} {m : Nat} (above : p.m ≤ m) (below : m < q.m) :
    (interpolate p q m : Int) = p.t + roundHalfAway (((q.t : Int) - p.t) * ((m : Int) - p.m)) (q.m - p.m) := by
  refine Int.toNat_of_nonneg ?_
  unfold roundHalfAway
  split
  case isTrue falls =>
    have bound : (((q.t : Int) - p.t) * ((m : Int) - p.m)).natAbs ≤ p.t * (q.m - p.m) := by
      zify [(above.trans below.le)]
      rw [abs_of_neg falls]
      have ahead : (0 : Int) ≤ (m : Int) - p.m := by omega
      have short : (m : Int) - p.m ≤ (q.m : Int) - p.m := by omega
      nlinarith
    have rounded := roundHalfUp_le (by omega) bound
    omega
  case isFalse => omega

section
variable {curves : Bank (Option (List Point)) 4} {c : CurveId} {points : List Point} {p q : Point} {m : Nat}
  (loaded : curves.get c = some points)
include loaded

theorem expectedTime_curve : expectedTime curves (.curve c) m = curveExpected points m := by
  rw [expectedTime, loaded, Option.getD_some]

theorem expectedTime_before (first : points.head? = some p) (below : m < p.m) :
    expectedTime curves (.curve c) m = none := by
  rw [expectedTime_curve loaded]
  cases points with
  | nil => cases first
  | cons x rest =>
    cases first
    exact if_pos below

variable (rising : Rising points)
include rising

theorem expectedTime_behind (last : points.getLast? = some p) (above : p.m ≤ m) :
    expectedTime curves (.curve c) m = some p.t := by
  rw [expectedTime_curve loaded]
  cases points with
  | nil => cases last
  | cons x rest =>
    have reached : x.m ≤ m := (rising.head_le (List.mem_of_getLast? last)).trans above
    exact (if_neg (Nat.not_lt.2 reached)).trans (congrArg some (curveTime_last rising last above))

theorem expectedTime_between {k : Nat} (from_ : points[k]? = some p) (to_ : points[k + 1]? = some q)
    (above : p.m ≤ m) (below : m < q.m) : expectedTime curves (.curve c) m = some (interpolate p q m) := by
  rw [expectedTime_curve loaded]
  cases points with
  | nil => cases from_
  | cons x rest =>
    have reached : x.m ≤ m := (rising.head_le (List.mem_of_getElem? from_)).trans above
    exact (if_neg (Nat.not_lt.2 reached)).trans
      (congrArg some (curveTime_segment rising from_ to_ above below))

end

/-! ## The entry of a grade record (R165, R167) -/

theorem gradeOne_notStarted {curves : Bank (Option (List Point)) 4} {tmr : Bank Timer 8} {i : GradeId} {g : Grade}
    (idle : (tmr.get g.timer).start = none) : gradeOne curves tmr i g =
      { grade := i, verdict := .notGraded, m := none, expected := none, measured := none, band := none } := by
  unfold gradeOne
  dsimp only
  rw [idle]

theorem gradeOne_started {curves : Bank (Option (List Point)) 4} {tmr : Bank Timer 8} {i : GradeId} {g : Grade}
    {t0 : Time} {amps : Bank Nat 10} (start : (tmr.get g.timer).start = some t0)
    (live : (tmr.get g.timer).amps = some amps) :
    let m := multiple (amps.get g.ref) g.setting
    let expected := expectedTime curves g.char m
    let lap := (tmr.get g.timer).laps[g.lap - 1]?
    gradeOne curves tmr i g =
      { grade := i, verdict := verdictOf g lap expected, m := some m, expected,
        measured := lap.map fun l => (l.value, l.early), band := expected.map (bandOf g) } := by
  unfold gradeOne
  dsimp only
  rw [start, live]

theorem judge_early {measured expected band : Nat} (early : measured + band < expected) :
    judge measured expected band = .failEarly := if_pos early

theorem judge_late {measured expected band : Nat} (late : expected + band < measured) :
    judge measured expected band = .failLate := by
  unfold judge
  rw [if_neg (by omega), if_pos late]

theorem judge_pass {measured expected band : Nat} (soon : expected ≤ measured + band)
    (late : measured ≤ expected + band) : judge measured expected band = .pass := by
  unfold judge
  rw [if_neg (by omega), if_neg (by omega)]

/-- Settles O45: the expected time by the characteristic, and the verdict by the lap. -/
theorem gradesFollowTheCharacteristic : Obligations.GradesFollowTheCharacteristic := by
  intro curves tmr i g _ e tm
  refine ⟨gradeOne_notStarted, fun t0 amps start live _ => ?_⟩
  intro m half
  have entry : e = _ := gradeOne_started start live
  have expected : e.expected = expectedTime curves g.char m := by rw [entry]; rfl
  have measured : e.measured = tm.laps[g.lap - 1]?.map fun l => (l.value, l.early) := by rw [entry]
  have band : e.band = e.expected.map (bandOf g) := by rw [entry]
  have verdict : e.verdict = verdictOf g tm.laps[g.lap - 1]? e.expected := by rw [entry]
  refine ⟨by rw [entry], by rw [entry]; rfl, fun tExp pick char => ?_, fun c points char loaded rising =>
    ⟨fun p first below => ?_, fun p last above => ?_, fun k p q from_ to_ above below => ?_⟩, fun x known => ?_,
    fun unknown => ?_, fun l lap => ⟨?_, fun x b known width => ?_, fun unknown => ?_⟩, fun lap => ⟨?_,
    fun unknown => ?_, fun known => ?_⟩⟩
  · rw [expected, char]
    exact ⟨fun below => if_pos below, fun above => if_neg (Nat.not_lt.2 above)⟩
  · rw [expected, char]
    exact expectedTime_before loaded first below
  · rw [expected, char]
    exact expectedTime_behind loaded rising last above
  · rw [expected, char]
    exact ⟨_, expectedTime_between loaded rising from_ to_ above below, interpolate_eq above below⟩
  · rw [band, known]
    rfl
  · rw [band, unknown]
    rfl
  · rw [measured, lap]
    rfl
  · have same : bandOf g x = b := by
      rw [band, known] at width
      exact Option.some.inj width
    rw [verdict, lap, known]
    show (_ → judge l.value x (bandOf g x) = _) ∧ (_ → judge l.value x (bandOf g x) = _) ∧
      (_ → _ → judge l.value x (bandOf g x) = _)
    rw [same]
    exact ⟨judge_early, judge_late, judge_pass⟩
  · rw [verdict, lap, unknown]
    rfl
  · rw [measured, lap]
    rfl
  · rw [verdict, lap, unknown]
    rfl
  · obtain ⟨x, hx⟩ := Option.ne_none_iff_exists'.1 known
    rw [verdict, lap, hx]
    rfl

end Sys2Proof.Machine
end

section
/-! PROOFS. The sample tick and the silence statuses: the tables of R55 to R59, the codes of a tick, the sine
table, and the rounding of increments and offsets (R44 to R46, R50, R51, R53 to R59). -/

namespace Sys2Proof.Machine

/-! ## Silence statuses (R53 to R59) -/

theorem msb_ne_iff (x y : Phase) : x.msb ≠ y.msb ↔ x.toNat / 2 ^ 31 ≠ y.toNat / 2 ^ 31 := by
  have hx := x.isLt
  have hy := y.isLt
  rw [BitVec.msb_eq_decide, BitVec.msb_eq_decide, Ne, decide_eq_decide]
  omega

theorem Chan.yields_iff (c : Chan) : c.yields = true ↔ c.freq = 0 ∨ c.amp = 0 ∨
    c.fresh = false ∧ (c.psi + c.phi).toNat / 2 ^ 31 ≠ c.prev.toNat / 2 ^ 31 := by
  rw [Chan.yields, Bool.or_eq_true, Chan.idle_iff, or_assoc, Chan.crosses, Bool.and_eq_true, Bool.not_eq_true',
    bne_iff_ne, msb_ne_iff, Chan.word]

section
variable {c : Chan} {tick : Time} (later : isAfter c.since tick = true)
include later

theorem Chan.resolve_later : c.resolve tick = match c.status with
    | .interruptPending => if c.yields then { c with status := .interrupted } else c
    | .stopPending => if c.yields then { c with status := .stopped } else c
    | .restoring => { c with status := .clear }
    | .clear | .interrupted | .stopped => c := if_pos later

end

/-- Settles O47, request by request and status by status. -/
theorem silenceStatusesFollowTheTables : Obligations.SilenceStatusesFollowTheTables := by
  intro c t becomes turns quiet
  have stays {r : Silence} (e : c.status = r) : becomes c r ∧ (c.since = c.since ∨ c.since = t) :=
    ⟨⟨e, by rw [← e]⟩, .inl rfl⟩
  have moves (r : Silence) : becomes { c with status := r } r ∧ (c.since = c.since ∨ c.since = t) :=
    ⟨⟨rfl, rfl⟩, .inl rfl⟩
  have dated (r : Silence) : becomes { c with status := r, since := t } r ∧ (t = c.since ∨ t = t) :=
    ⟨⟨rfl, rfl⟩, .inr rfl⟩
  have yields : c.yields = true ↔ quiet := c.yields_iff
  refine ⟨⟨fun e => ?_, fun e => ?_, fun e => ?_, fun e => ?_, fun e => ?_, fun e => ?_, fun e => ?_, fun e => ?_⟩,
    ⟨fun e => ?_, fun e => ?_, fun e => ?_, fun e => ?_, fun e => ?_, fun e => ?_, fun e => ?_, fun e => ?_⟩,
    ⟨fun e => ?_, fun e => ?_, fun e => ?_, fun e => ?_, fun e => ?_, fun e => ?_, fun e => ?_, fun e => ?_⟩, rfl,
    fun e => ?_, fun e => ?_, fun early => if_neg (by simp [early]), fun later => ⟨fun e yes => ?_, fun e yes => ?_,
    fun e no => ?_, fun e => ?_, fun e => ?_⟩⟩
  · rw [Chan.interrupt, e]; exact dated _
  · rw [Chan.interrupt, e]
  · rw [Chan.interrupt, e]; exact stays e
  · rw [Chan.interrupt, e]
  · rw [Chan.interrupt, e]; exact stays e
  · rw [Chan.interrupt, e]; exact moves _
  · rw [Chan.interrupt, e]; exact stays e
  · rw [Chan.interrupt, e]; exact stays e
  · rw [Chan.restore, e]; exact stays e
  · rw [Chan.restore, e]; exact moves _
  · rw [Chan.restore, e]; exact dated _
  · rw [Chan.restore, e]
  · rw [Chan.restore, e]; exact stays e
  · rw [Chan.restore, e]
  · rw [Chan.restore, e]; exact stays e
  · rw [Chan.restore, e]; exact stays e
  · rw [Chan.stopRequest, e]; exact dated _
  · rw [Chan.stopRequest, e]; exact dated _
  · rcases e with e | e <;> rw [Chan.stopRequest, e]
  · rw [Chan.stopRequest, e]; exact moves _
  · rw [Chan.stopRequest, e]; exact moves _
  · rw [Chan.stopRequest, e]; exact stays e
  · rw [Chan.stopRequest, e]
  · rw [Chan.stopRequest, e]; exact stays e
  · rw [Chan.cut_eq, if_pos e]
  · rw [Chan.cut_eq, if_neg e]
  · rw [Chan.resolve_later later, e]
    dsimp only
    rw [if_pos (yields.2 yes)]
    exact (moves _).1
  · rw [Chan.resolve_later later, e]
    dsimp only
    rw [if_pos (yields.2 yes)]
    exact (moves _).1
  · have stands : ¬ c.yields = true := fun y => no (yields.1 y)
    rcases e with e | e <;> rw [Chan.resolve_later later, e] <;> exact if_neg stands
  · rw [Chan.resolve_later later, e]
    exact (moves _).1
  · rcases e with e | e | e <;> rw [Chan.resolve_later later, e]

/-! ## The sine table (R50) -/

section
variable {k : Nat}

theorem quarterAt_zero : quarterAt 0 = 0 := by rfl

theorem sineTable_first (high : k ≤ 1024) : sineTable k = quarterAt k := if_pos high

theorem sineTable_second (low : 1024 ≤ k) (high : k ≤ 2048) : sineTable k = quarterAt (2048 - k) := by
  rcases Nat.eq_or_lt_of_le low with rfl | above
  · exact sineTable_first le_rfl
  · unfold sineTable
    rw [if_neg (by omega), if_pos high]

theorem sineTable_third (low : 2048 ≤ k) (high : k ≤ 3072) : sineTable k = -quarterAt (k - 2048) := by
  rcases Nat.eq_or_lt_of_le low with rfl | above
  · rw [sineTable_second (by omega) le_rfl, Nat.sub_self, quarterAt_zero, neg_zero]
  · unfold sineTable
    rw [if_neg (by omega), if_neg (by omega), if_pos high]

theorem sineTable_fourth (low : 3072 ≤ k) : sineTable k = -quarterAt (4096 - k) := by
  rcases Nat.eq_or_lt_of_le low with rfl | above
  · exact sineTable_third (by omega) le_rfl
  · unfold sineTable
    rw [if_neg (by omega), if_neg (by omega), if_neg (by omega)]

theorem sineTable_negates (high : k ≤ 4096) : sineTable (4096 - k) = -sineTable k := by
  rcases Nat.le_total k 2048 with below | above
  · rcases Nat.le_total k 1024 with first | second
    · rw [sineTable_first first, sineTable_fourth (by omega), Nat.sub_sub_self high]
    · rw [sineTable_second second below, sineTable_third (by omega) (by omega),
        show 4096 - k - 2048 = 2048 - k by omega]
  · rcases Nat.le_total k 3072 with third | fourth
    · rw [sineTable_third above third, sineTable_second (by omega) (by omega), neg_neg,
        show 2048 - (4096 - k) = k - 2048 by omega]
    · rw [sineTable_fourth fourth, sineTable_first (by omega), neg_neg]

theorem sineTable_mirrors (high : k ≤ 1024) : sineTable (2048 - k) = sineTable k := by
  rw [sineTable_first high, sineTable_second (by omega) (by omega), Nat.sub_sub_self (by omega)]

end

/-! ## Rounding (R44, R45) -/

theorem roundHalfUp_bounds (n : Nat) {d : Nat} (pos : 0 < d) :
    2 * n < (2 * roundHalfUp n d + 1) * d ∧ 2 * roundHalfUp n d * d ≤ 2 * n + d := by
  unfold roundHalfUp
  have low := Nat.div_mul_le_self (2 * n + d) (2 * d)
  have high := Nat.lt_div_mul_add (a := 2 * n + d) (b := 2 * d) (by omega)
  have turn : (2 * n + d) / (2 * d) * (2 * d) = 2 * ((2 * n + d) / (2 * d)) * d := by ring
  have unit : (2 * ((2 * n + d) / (2 * d)) + 1) * d = 2 * ((2 * n + d) / (2 * d)) * d + d := by ring
  omega

theorem increment_toNat {f : Nat} (range : f ≤ 1000000) :
    (increment f).toNat = roundHalfUp (f * 2 ^ 32) 10000000 := by
  have := (roundHalfUp_bounds (f * 2 ^ 32) (show 0 < 10000000 by decide)).2
  rw [increment, BitVec.toNat_ofNat, Nat.mod_eq_of_lt (by omega)]

theorem offsetWord_toNat {a : Nat} (range : a ≤ 35999) :
    (offsetWord a).toNat = roundHalfUp (a * 2 ^ 32) 36000 := by
  have := (roundHalfUp_bounds (a * 2 ^ 32) (show 0 < 36000 by decide)).2
  rw [offsetWord, BitVec.toNat_ofNat, Nat.mod_eq_of_lt (by omega)]

/-! ## The codes of a tick (R50, R51) -/

theorem silenced_iff (r : Silence) : r.silenced = true ↔ r = .interrupted ∨ r = .restoring ∨ r = .stopped := by
  cases r <;> simp [Silence.silenced]

theorem routeOf_connects {m : OutletMap} {o : Outlet} {x : Channel × Share} (route : routeOf m o = some x) :
    m.connects = true := by
  refine (connects_iff m).2 fun open_ => ?_
  rw [routeOf_disconnected open_] at route
  cases route

section
variable {cal : Bank CalRecord 10} {y : Synth} {o : Outlet}

theorem emitted_unrouted (driving : Bool) (none : routeOf y.map o = none) : emitted driving cal y o = 0 := by
  unfold emitted
  rw [none]

variable {c : Channel} {sh : Share} (route : routeOf y.map o = some (c, sh))
include route

theorem emitted_silent (driving : Bool)
    (silent : y.contactors.get o = false ∨ (y.chans.get c).status.silenced = true) :
    emitted driving cal y o = 0 := by
  unfold emitted
  rw [route]
  refine if_neg fun sounds => ?_
  simp only [Synth.live, Bool.and_eq_true, Bool.not_eq_true'] at sounds
  rcases silent with off | silenced
  · rw [off] at sounds; cases sounds.1.2.2
  · rw [silenced] at sounds; cases sounds.2

theorem emitted_sounds (closed : y.contactors.get o = true) (sounds : (y.chans.get c).status.silenced = false) :
    emitted true cal y o = sampleCode (y.chans.get c).word (y.peaks.get o) (cal.get o).offset := by
  unfold emitted
  rw [route]
  exact if_pos (by simp [Synth.live, routeOf_connects route, closed, sounds])

end

/-! ## The sample tick (R27 to R30, R57, R59) -/

theorem workWaits_running {s : State} {tick : Time} (waits : workWaits s tick = true) : s.seq.st = .running :=
  ((workWaits_iff s tick).1 waits).1

theorem cutWaits_stopping {s : State} {tick : Time} (waits : cutWaits s tick = true) : s.seq.st = .stopping :=
  ((cutWaits_iff s tick).1 waits).1

section
variable {s : State} (up : s.power = .up) (due : atOrAfter s.now s.clock.nextTick = true)
include up due

theorem exec_sampleTick : exec .sampleTick s =
    .next (if workWaits s s.clock.nextTick || cutWaits s s.clock.nextTick then s
      else sampleAt s.clock.nextTick s) := by
  have tick : tickDue s = s.clock.nextTick := if_pos due
  refine congrArg Host.Outcome.next ((whenUp_up up).trans ?_)
  unfold sampleTick
  rw [tick]

theorem exec_sampleTick_waits (waits : workWaits s s.clock.nextTick = true ∨ cutWaits s s.clock.nextTick = true) :
    exec .sampleTick s = .next s :=
  (exec_sampleTick up due).trans (congrArg Host.Outcome.next (if_pos (by simpa using waits)))

theorem exec_sampleTick_goes (work : ¬ workWaits s s.clock.nextTick = true)
    (cut : ¬ cutWaits s s.clock.nextTick = true) :
    exec .sampleTick s = .next (sampleAt s.clock.nextTick s) :=
  (exec_sampleTick up due).trans (congrArg Host.Outcome.next
    (if_neg fun both => (Bool.or_eq_true_iff.1 both).elim work cut))

end

/-- The state of a tick behind its resolution (R59). -/
def State.resolved (tick : Time) (s : State) : State :=
  { s with now := tick, syn := { s.syn with chans := s.syn.chans.map (Chan.resolve tick) } }

theorem resolveTick_driving {s : State} {tick : Time} (due : atOrAfter s.now tick = true)
    (driving : s.seq.st.driving = true) : resolveTick tick (s.advance tick) = s.resolved tick := by
  have later : laterOf s.now tick = tick := if_pos due
  refine (if_pos driving).trans ?_
  dsimp only [State.advance]
  rw [later]
  rfl

theorem resolveTick_resting {s : State} {tick : Time} (due : atOrAfter s.now tick = true)
    (resting : s.seq.st.driving = false) : resolveTick tick (s.advance tick) = { s with now := tick } := by
  have later : laterOf s.now tick = tick := if_pos due
  refine (if_neg (by rw [State.advance_seq, resting]; decide)).trans ?_
  dsimp only [State.advance]
  rw [later]

theorem endStopping_other {s : State} {tick : Time}
    (goes : s.seq.st ≠ .stopping ∨ ∃ c, (s.syn.chans.get c).status ≠ .stopped) : endStopping tick s = s := by
  unfold endStopping
  split
  case h_1 stopping =>
    refine if_neg fun all => ?_
    rcases goes with other | ⟨c, sounds⟩
    · exact other stopping
    · exact sounds (by simpa using Bank.all_items.1 all c)
  all_goals rfl

theorem endStopping_last {s : State} {tick : Time} (stopping : s.seq.st = .stopping)
    (all : ∀ c, (s.syn.chans.get c).status = .stopped) : endStopping tick s = s.enterTail tick := by
  unfold endStopping
  rw [stopping]
  exact if_pos (Bank.all_items.2 fun c => by simp [all c])

/-- The samples outside RUNNING and STOPPING are 0, and nothing advances (R46, R51). -/
theorem emitSamples_resting {s : State} (resting : s.seq.st.driving = false) :
    emitSamples s = { s with syn := { s.syn with dac := .fill 10 0 } } := by
  have silent : (Bank.ofFn (emitted false s.cal.working s.syn)) = .fill 10 0 :=
    Bank.ext_get fun o => by rw [Bank.get_ofFn, Bank.get_fill, emitted_off]
  unfold emitSamples
  rw [resting]
  dsimp only
  rw [silent]
  rfl

theorem emitSamples_driving {s : State} (driving : s.seq.st.driving = true) :
    emitSamples s = { s with syn := { s.syn with
      dac := .ofFn (emitted true s.cal.working s.syn)
      chans := s.syn.chans.map Chan.advance } } := by
  unfold emitSamples
  rw [driving]
  rfl

/-- The state of a tick in RUNNING or STOPPING that is not the last (R50, R57). -/
def State.sampled (tick : Time) (s : State) : State :=
  { s.resolved tick with
    syn := { (s.resolved tick).syn with
      dac := .ofFn (emitted true s.cal.working (s.resolved tick).syn)
      chans := (s.resolved tick).syn.chans.map Chan.advance }
    clock := { s.clock with nextTick := tickAfter s.clock.anchor tick } }

theorem sampleAt_driving {s : State} {tick : Time} (due : atOrAfter s.now tick = true)
    (driving : s.seq.st.driving = true) (goes : endStopping tick (s.resolved tick) = s.resolved tick) :
    sampleAt tick s = s.sampled tick := by
  unfold sampleAt
  rw [resolveTick_driving due driving, goes, emitSamples_driving (s := s.resolved tick) driving]
  rfl

/-- Settles O46: the tick in each state, the sine table and the rounding. -/
theorem sampleTickEmitsTheCodes : Obligations.SampleTickEmitsTheCodes := by
  refine ⟨fun s up due => ?_, ⟨rfl, by decide +kernel, ?_, by decide +kernel, fun k _ high =>
    sineTable_negates (by omega), fun k _ high => sineTable_mirrors (by omega)⟩, fun f range => ?_,
    fun a range => ?_⟩
  · intro tick ticked x code last
    have chan (c : Channel) : (s.resolved tick).syn.chans.get c = x c := Bank.get_map ..
    refine ⟨fun resting => ?_, ?_⟩
    · refine (exec_sampleTick_goes up due (fun w => ?_) fun w => ?_).trans (congrArg Host.Outcome.next ?_)
      · rw [workWaits_running w] at resting; cases resting
      · rw [cutWaits_stopping w] at resting; cases resting
      · unfold sampleAt
        rw [resolveTick_resting due resting, endStopping_other (.inl fun stopping => ?_),
          emitSamples_resting (s := { s with now := tick }) resting]
        rw [show s.seq.st = .stopping from stopping] at resting
        cases resting
    intro waits cut
    have work : workWaits s tick = true ↔ waits := workWaits_iff s tick
    have cuts : cutWaits s tick = true ↔ cut := cutWaits_iff s tick
    refine ⟨fun w => exec_sampleTick_waits up due (.inl (work.2 w)),
      fun w => exec_sampleTick_waits up due (.inr (cuts.2 w)), fun driving free uncut more => ?_, fun ends => ?_⟩
    · have goes : endStopping tick (s.resolved tick) = s.resolved tick := by
        refine endStopping_other ?_
        by_contra all
        simp only [not_or, not_not, not_exists, ne_eq, chan] at all
        exact more all
      refine ⟨s.sampled tick, (exec_sampleTick_goes up due (fun w => free (work.1 w)) fun w =>
        uncut (cuts.1 w)).trans (congrArg Host.Outcome.next (sampleAt_driving due driving goes)), fun c => ?_,
        fun o => ⟨fun none => ?_, fun c sh route => ?_⟩, rfl⟩
      · refine (Bank.get_map ..).trans ?_
        rw [chan]
        rfl
      · exact (Bank.get_ofFn ..).trans (emitted_unrouted (y := (s.resolved tick).syn) true none)
      · intro silent
        have quiet : (s.resolved tick).syn.contactors.get o = false ∨
            ((s.resolved tick).syn.chans.get c).status.silenced = true ↔ silent := by
          rw [chan, silenced_iff]
          rfl
        refine ⟨fun mute => (Bank.get_ofFn ..).trans ?_, fun sounds => ?_⟩
        · exact emitted_silent (y := (s.resolved tick).syn) route true (quiet.2 mute)
        have audible := not_or.1 fun q => sounds (quiet.1 q)
        rw [Bool.not_eq_false, Bool.not_eq_true] at audible
        refine (Bank.get_ofFn ..).trans
          ((emitted_sounds (y := (s.resolved tick).syn) route audible.1 audible.2).trans ?_)
        rw [chan]
        rfl
    · obtain ⟨stopping, all⟩ := ends
      have driving : s.seq.st.driving = true := by rw [stopping]; rfl
      have unwaiting : ¬ workWaits s tick = true := fun w => by
        rw [workWaits_running w] at stopping
        cases stopping
      have uncut : ¬ cutWaits s tick = true := fun w => by
        obtain ⟨-, -, c, waiting⟩ := cuts.1 w
        rw [all c] at waiting
        cases waiting
      refine ⟨(s.resolved tick).enterTail tick, rfl, fun o owned => refreshOutputs_rest rfl o owned,
        chan, rfl, rfl, rfl, rfl, rfl, rfl, rfl, rfl, rfl, rfl, rfl,
        (exec_sampleTick_goes up due unwaiting uncut).trans (congrArg Host.Outcome.next ?_)⟩
      unfold sampleAt
      rw [resolveTick_driving due driving,
        endStopping_last (s := s.resolved tick) stopping fun c => by rw [chan]; exact all c,
        emitSamples_resting (s := (s.resolved tick).enterTail tick) rfl]
      rfl
  · exact (sineTable_second (by omega) le_rfl).trans quarterAt_zero
  · rw [increment_toNat range]
    have bounds := roundHalfUp_bounds (f * 2 ^ 32) (show 0 < 10000000 by decide)
    refine ⟨bounds.1, ?_⟩
    exact_mod_cast bounds.2
  · rw [offsetWord_toNat range]
    have bounds := roundHalfUp_bounds (a * 2 ^ 32) (show 0 < 36000 by decide)
    refine ⟨bounds.1, ?_⟩
    exact_mod_cast bounds.2

end Sys2Proof.Machine
end

section
/-! PROOFS. Output supervision (09): the thermal accounts and the overload stops, the supply check, and the
interlock loop. -/

namespace Sys2Proof.Machine

/-! ## Periodic commands and chainless work -/

theorem periodicDue_due {p : Nat} {next now : Time} (due : atOrAfter now next = true) :
    periodicDue p next now = next := if_pos due

theorem advance_due {s : State} {t : Time} (due : atOrAfter s.now t = true) :
    s.advance t = { s with now := t } := by
  unfold State.advance
  rw [show laterOf s.now t = t from if_pos due]

/-- Work that sets no further work is carried out once each, in some order of the pieces. -/
theorem runWork_foldl {ω : Type} {act : ω → State → State × List ω} {f : State → ω → State}
    (chainless : ∀ w s, act w s = (f s w, [])) {fuel : Nat} {sched : List Nat} {ws : List ω} (s : State)
    (room : ws.length ≤ fuel) :
    ∃ order : List ω, order.Perm ws ∧ runWork act fuel sched ws s = order.foldl f s := by
  induction fuel generalizing sched ws s with
  | zero =>
    obtain rfl := List.length_eq_zero_iff.1 (Nat.le_zero.1 room)
    exact ⟨[], .refl _, rfl⟩
  | succ fuel ih =>
    cases ws with
    | nil => exact ⟨[], .refl _, rfl⟩
    | cons l ls =>
      let i := sched.headD 0 % (l :: ls).length
      have below : i < (l :: ls).length := Nat.mod_lt _ (by simp)
      have fewer : ((l :: ls).eraseIdx i).length ≤ fuel := by
        rw [List.length_eraseIdx_of_lt below]
        simp only [List.length_cons] at room ⊢
        omega
      obtain ⟨order, perm, rest⟩ := ih (sched := sched.tail) (f s (l :: ls)[i]) fewer
      refine ⟨(l :: ls)[i] :: order, (perm.cons _).trans (List.getElem_cons_eraseIdx_perm below), ?_⟩
      rw [runWork_takes act fuel sched s (i := i) below rfl, chainless, List.append_nil, rest, List.foldl_cons]

/-! ## The thermal accounts (R143 to R146, R148) -/

theorem overloads_iff (before afterwards capacity : Nat) :
    overloads before afterwards capacity = true ↔ before < capacity ∧ afterwards = capacity := by
  simp [overloads]

theorem heatAfter_cast (heat amp rating capacity : Nat) : (heatAfter heat amp rating capacity : Int) =
    min (capacity : Int) (max 0 ((heat : Int) + (amp : Int) ^ 2 - (rating : Int) ^ 2)) := by
  unfold heatAfter
  rw [Nat.cast_min, Int.toNat_of_nonneg (le_max_left 0 _)]

section
variable (inShot : Bool) (amp rating capacity : Nat) (h : Thermal)

theorem Thermal.update_given :
    let use := usage (h.update inShot amp rating capacity).heat capacity
    (h.update inShot amp rating capacity).given = true ↔ 800 ≤ use ∨ h.given = true ∧ 700 ≤ use := by
  intro use
  have given : (h.update inShot amp rating capacity).given =
      if 800 ≤ use then true else if use < 700 then false else h.given := rfl
  rw [given]
  split
  · simp [*]
  · split
    · rename_i low
      exact iff_of_false Bool.false_ne_true fun yes => by omega
    · rename_i low high
      simp [Nat.le_of_not_lt high, low]

theorem Thermal.update_hot :
    let h' := h.update inShot amp rating capacity
    h'.hot = true ↔ (h.heat < capacity ∧ h'.heat = capacity) ∨ h.hot = true ∧ 500 ≤ usage h'.heat capacity := by
  intro h'
  have hot : h'.hot = if overloads h.heat h'.heat capacity then true
      else if usage h'.heat capacity < 500 then false else h.hot := rfl
  rw [hot]
  split
  · rename_i hits
    exact iff_of_true rfl (.inl ((overloads_iff ..).1 hits))
  · rename_i misses
    rw [overloads_iff] at misses
    split
    · rename_i low
      exact iff_of_false Bool.false_ne_true fun yes => yes.elim misses fun keeps => Nat.not_le_of_lt low keeps.2
    · rename_i high
      simp [misses, Nat.le_of_not_lt high]

end

theorem mem_overloadedBy {s : State} {o : CurrentOutlet} : o ∈ overloadedBy s ↔
    (s.sup.thermal.get o).heat < capacityOf s o ∧ ((updateThermal s).get o).heat = capacityOf s o := by
  simp [overloadedBy, overloads_iff]

theorem overloadedBy_nodup (s : State) : (overloadedBy s).Nodup := (List.nodup_finRange 6).filter _

theorem overloadedBy_length (s : State) : (overloadedBy s).length ≤ 6 :=
  (List.length_filter_le _ _).trans (by rw [List.length_finRange])

theorem warnsBy_iff (s : State) : warnsBy s = true ↔
    ∃ o, (s.sup.thermal.get o).given = false ∧ ((updateThermal s).get o).given = true := by
  simp [warnsBy]

/-- The state whose thermal accounts an update at `t` has charged. -/
def State.charged (t : Time) (s : State) : State :=
  { s with
    now := t
    sup := { s.sup with thermal := updateThermal s }
    clock := { s.clock with nextSupervision := nextMultiple 10000 t } }

theorem exec_supervisionInterval {s : State} (sched : List Nat) (up : s.power = .up)
    (due : atOrAfter s.now s.clock.nextSupervision = true) :
    exec (.supervisionInterval sched) s = .next (runWork (overloadStop s.clock.nextSupervision) 6 sched
      (overloadedBy s) (thermalNotices (warnsBy s) (!(overloadedBy s).isEmpty)
        (s.charged s.clock.nextSupervision))) := by
  refine congrArg Host.Outcome.next ((whenUp_up up).trans ?_)
  unfold supervise
  rw [periodicDue_due due]
  dsimp only
  rw [advance_due due]
  rfl

/-- Settles O48: the accounts outlet by outlet, then the notices, then the stops in their order. -/
theorem supervisionChargesTheOutlets : Obligations.SupervisionChargesTheOutlets := by
  intro s sched up due t w charge hits
  have account (o : CurrentOutlet) : (updateThermal s).get o = (s.sup.thermal.get o).update s.seq.st.inShot
      (chargedAmp s o) (ratingOf s o) (capacityOf s o) := Bank.get_mapIdx ..
  have taken : ∀ o, o ∈ overloadedBy s ↔ hits o ((updateThermal s).get o).heat := fun o => mem_overloadedBy
  refine ⟨updateThermal s, fun o => ?_, ?_⟩
  · intro h h' use
    have same : h' = h.update s.seq.st.inShot (chargedAmp s o) (ratingOf s o) (capacityOf s o) := account o
    rw [show use = usage h'.heat (capacityOf s o) from rfl, same]
    exact ⟨heatAfter_cast .., Thermal.update_given .., Thermal.update_hot .., rfl⟩
  · intro warns v told
    have warned : warnsBy s = true ↔ warns := warnsBy_iff s
    refine ⟨thermalNotices (warnsBy s) false (s.charged t), ⟨fun yes => ?_, fun no => ?_⟩, fun cool => ?_,
      fun hot => ?_⟩
    · rw [warned.2 yes]
      rfl
    · rw [Bool.eq_false_iff.2 (warned.not.2 no)]
      rfl
    · have empty : overloadedBy s = [] := List.eq_nil_iff_forall_not_mem.2 fun o yes => cool o ((taken o).1 yes)
      rw [exec_supervisionInterval sched up due, empty]
      rfl
    · have present : (!(overloadedBy s).isEmpty) = true := by
        obtain ⟨o, yes⟩ := hot
        rw [Bool.not_eq_true', List.isEmpty_eq_false_iff_exists_mem]
        exact ⟨o, (taken o).2 yes⟩
      obtain ⟨order, perm, run⟩ := runWork_foldl (act := overloadStop t) (sched := sched)
        (f := fun x o => x.hardStop (.overload o) t) (fun _ _ => rfl)
        (thermalNotices (warnsBy s) true (s.charged t)) (overloadedBy_length s)
      refine ⟨order, perm.nodup_iff.2 (overloadedBy_nodup s), fun o => perm.mem_iff.trans (taken o), ?_⟩
      rw [exec_supervisionInterval sched up due, present, run]
      rfl

/-! ## What a reject source does (R21) -/

section
variable {s : State} (r : RejectSource)

theorem rejectRises_unarmed (free : s.seq.st ≠ .armed) : s.rejectRises r = s := by
  unfold State.rejectRises
  split
  case h_1 armed _ => exact absurd armed free
  case h_2 => rfl

theorem rejectRises_armed {src : StartSource} (armed : s.seq.st = .armed) (source : s.seq.source = some src)
    (counts : counted src r = true) : s.rejectRises r = (s.endArm (.source r)).raise .armCancelled := by
  unfold State.rejectRises
  rw [armed, source]
  exact if_pos counts

end

theorem inShot_unarmed {s : State} (inShot : s.seq.st.inShot = true) : s.seq.st ≠ .armed := fun armed => by
  rw [armed] at inShot
  cases inShot

theorem editable_unarmed {s : State} (editable : s.seq.st.editable = true) : s.seq.st ≠ .armed := fun armed => by
  rw [armed] at editable
  cases editable

theorem editable_outside {s : State} (editable : s.seq.st.editable = true) : s.seq.st.inShot = false := by
  generalize s.seq.st = st at editable
  cases st with
  | empty | ready => rfl
  | armed | running | stopping | tail => cases editable

/-! ## The supply check (R149, R150) -/

/-- The low count and the sag condition after a check. -/
def State.sagRead (sagLow : Bool) (s : State) : State :=
  let low := lowAfter sagLow s.sup.low
  { s with sup := { s.sup with low, sag := decide (s.seq.header.persistence ≤ low) } }

/-- The state that a supply check at `t` has brought to that instant. -/
def State.supplyTime (t : Time) (s : State) : State :=
  { s with now := t, clock := { s.clock with nextSupply := nextMultiple 1000 t } }

theorem exec_supplyCheck {s : State} (sagLow : Bool) (volts : Bank Nat 10) (up : s.power = .up)
    (due : atOrAfter s.now s.clock.nextSupply = true) : exec (.supplyCheck sagLow volts) s =
    .next (readLevels volts (readSag s.clock.nextSupply sagLow (s.supplyTime s.clock.nextSupply))) := by
  refine congrArg Host.Outcome.next ((whenUp_up up).trans ?_)
  unfold supplyCheck
  rw [periodicDue_due due]
  dsimp only
  rw [advance_due due]
  rfl

section
variable {s : State} {sagLow : Bool} (t : Time)

theorem readSag_quiet (quiet : ¬ (s.seq.header.persistence ≤ lowAfter sagLow s.sup.low ∧ s.sup.sag = false)) :
    readSag t sagLow s = s.sagRead sagLow :=
  if_neg (by simpa using quiet)

theorem readSag_onset (present : s.seq.header.persistence ≤ lowAfter sagLow s.sup.low)
    (fresh : s.sup.sag = false) : readSag t sagLow s = sagOnset t (s.sagRead sagLow) :=
  if_pos (by simp [present, fresh])

theorem sagOnset_editable (editable : s.seq.st.editable = true) : sagOnset t s = s := by
  unfold sagOnset
  rw [rejectRises_unarmed _ (editable_unarmed editable)]
  exact if_neg (by rw [editable_outside editable]; decide)

theorem sagOnset_armed {src : StartSource} (armed : s.seq.st = .armed) (source : s.seq.source = some src) :
    sagOnset t s = (s.endArm (.source .supplySag)).raise .armCancelled := by
  unfold sagOnset
  rw [rejectRises_armed _ armed source ((counted_iff ..).2 fun other => by cases other)]
  exact if_neg Bool.false_ne_true

/-- The shot whose sag flag an onset has set. -/
def State.sagSeen (s : State) : State := s.write fun r => { r with flags := { r.flags with sagSeen := true } }

theorem sagOnset_inShot (inShot : s.seq.st.inShot = true) : sagOnset t s =
    match s.seq.header.sagMode with
    | .warn => s.sagSeen
    | .stop => s.sagSeen.hardStop .supplySag t := by
  unfold sagOnset
  rw [rejectRises_unarmed _ (inShot_unarmed inShot)]
  refine (if_pos inShot).trans ?_
  change (match s.sagSeen.seq.header.sagMode with
    | .warn => s.sagSeen
    | .stop => s.sagSeen.hardStop .supplySag t) = _
  rw [show s.sagSeen.seq = s.seq from State.write_seq ..]

end

/-! ## The interlock loop (R151) -/

/-- The state whose interlock loop has opened. -/
def State.loopOpened (s : State) : State :=
  { s with sup := { s.sup with interlockOpen := true } }.raise .interlockOpen

section
variable {s : State} (t : Time)

theorem interlockOpens_open (opened : s.sup.interlockOpen = true) : interlockOpens t s = s := if_pos opened

theorem interlockOpens_closed (closed : s.sup.interlockOpen = false) : interlockOpens t s =
    (s.loopOpened.rejectRises .interlockOpen).hardStop .interlock t :=
  if_neg (by rw [closed]; decide)

end

theorem exec_interlockOpening {s : State} (t : Time) (up : s.power = .up) :
    exec (.interlockOpening t) s = .next (interlockOpens (s.advance t).now (s.advance t)) :=
  congrArg Host.Outcome.next (whenUp_up up)

/-- Settles O49: the onset and the opening in each sequencer state. -/
theorem supplyAndInterlock : Obligations.SupplyAndInterlock := by
  refine ⟨fun s sagLow volts up due => ?_, fun s t up => ?_⟩
  · intro t low present onset level read v seen
    have run := exec_supplyCheck sagLow volts up due
    have levels (u : State) : readLevels volts u = read u := by
      refine congrArg (fun inp => { u with inp }) (Bank.ext_get fun k => (Bank.get_mapIdx ..).trans ?_)
      rw [Bank.get_ofFn]
      rfl
    have onsets (o : onset) {w : State} (becomes : sagOnset t v = w) :
        exec (.supplyCheck sagLow volts) s = .next (read w) := by
      rw [run, readSag_onset (s := s.supplyTime t) t o.1 o.2, levels]
      exact congrArg (Host.Outcome.next ∘ read) becomes
    refine ⟨fun quiet => ?_, fun o editable => onsets o (sagOnset_editable t editable),
      fun src o armed source => onsets o (sagOnset_armed t armed source), fun o inShot mode => onsets o ?_,
      fun o inShot mode => onsets o ?_⟩
    · rw [run, readSag_quiet (s := s.supplyTime t) t quiet, levels]
      rfl
    · rw [sagOnset_inShot (s := v) t inShot, show v.seq.header.sagMode = .warn from mode]
      rfl
    · rw [sagOnset_inShot (s := v) t inShot, show v.seq.header.sagMode = .stop from mode]
      rfl
  · intro u opened
    have run := exec_interlockOpening t up
    have opens (closed : s.sup.interlockOpen = false) {w : State}
        (becomes : (opened.rejectRises .interlockOpen).hardStop .interlock u.now = w) :
        exec (.interlockOpening t) s = .next w :=
      run.trans (congrArg Host.Outcome.next ((interlockOpens_closed (s := u) _ closed).trans becomes))
    refine ⟨fun already => run.trans (congrArg Host.Outcome.next (interlockOpens_open _ already)),
      fun closed editable => opens closed ?_, fun src closed armed source => opens closed ?_,
      fun closed inShot => opens closed ?_, congrArg Host.Outcome.next (whenUp_up up)⟩
    · rw [rejectRises_unarmed _ (editable_unarmed (s := opened) editable)]
      exact hardStop_outside _ _ (editable_outside (s := opened) editable)
    · rw [rejectRises_armed (s := opened) _ armed source ((counted_iff ..).2 fun other => by cases other)]
      exact hardStop_outside _ _ rfl
    · rw [rejectRises_unarmed _ (inShot_unarmed (s := opened) inShot)]

end Sys2Proof.Machine
end

section
/-! PROOFS. The time base (08): the class of a pulse, what the sequencer makes of a valid one, and the loss of
the pulses. -/

namespace Sys2Proof.Machine

/-! ## The class of a pulse (R133) -/

section
variable {latest : Option Time} {l p : Time}

theorem classify_glitch (captured : latest = some l) (early : elapsed l p < 999800) :
    classify latest p = .glitch := by
  subst captured
  exact if_pos early

theorem classify_valid (captured : latest = some l) (early : 999800 ≤ elapsed l p) (late : elapsed l p ≤ 1000200) :
    classify latest p = .valid := by
  subst captured
  exact (if_neg (Nat.not_lt.2 early)).trans (if_pos late)

theorem classify_late (captured : latest = some l) (late : 1000200 < elapsed l p) :
    classify latest p = .late := by
  subst captured
  exact (if_neg (Nat.not_lt.2 (Nat.le_of_lt (Nat.lt_trans (by decide) late)))).trans (if_neg (Nat.not_le.2 late))

end

/-! ## The capture, and the loss of the sync state -/

section
variable (sync : Sync) (p : Time) (s : State)

theorem capture_same (same : s.tb.sync = sync) :
    capture sync p s = { s with tb := { s.tb with latest := some p, sync } } := if_pos same

theorem capture_changed (changed : s.tb.sync ≠ sync) :
    capture sync p s = State.raise { s with tb := { s.tb with latest := some p, sync } } .syncChanged :=
  if_neg changed

theorem capture_seq : (capture sync p s).seq = s.seq := by
  unfold capture
  split <;> rfl

theorem capture_clock : (capture sync p s).clock = s.clock := by
  unfold capture
  split <;> rfl

theorem capture_sync : (capture sync p s).tb.sync = sync := by
  unfold capture
  split <;> rfl

end

section
variable {before : Sync} {s : State}

theorem lossOfSync_lost (lost : before.lost = true) : lossOfSync before s = s := if_neg (by simp [lost])

theorem lossOfSync_falls (locked : before.lost = false) (falls : s.tb.sync.lost = true) :
    lossOfSync before s = s.rejectRises .noSync := if_pos (by simp [locked, falls])

theorem rejectRises_noSync (other : s.seq.st = .armed → ∀ n, s.seq.source ≠ some (.pps n)) :
    s.rejectRises .noSync = s := by
  unfold State.rejectRises
  split
  case h_1 src armed source =>
    refine if_neg fun counts => ?_
    obtain ⟨n, rfl⟩ := (counted_iff ..).1 counts rfl
    exact other armed n source
  case h_2 => rfl

theorem rejectRises_ppsArm {n : Nat} (armed : s.seq.st = .armed) (source : s.seq.source = some (.pps n)) :
    s.rejectRises .noSync = (s.endArm (.source .noSync)).raise .armCancelled :=
  rejectRises_armed _ armed source ((counted_iff ..).2 fun _ => ⟨n, rfl⟩)

theorem lossOfSync_passes (other : s.seq.st = .armed → ∀ n, s.seq.source ≠ some (.pps n)) :
    lossOfSync before s = s := by
  unfold lossOfSync
  split
  · exact rejectRises_noSync other
  · rfl

end

/-! ## What the sequencer makes of a valid pulse (R136, R138, R139) -/

section
variable {s : State} {p : Time}

theorem countPulse_counts {n : Nat} (armed : s.seq.st = .armed) (source : s.seq.source = some (.pps n))
    (waits : s.seq.startDue = none) : countPulse p s = { s with seq := { s.seq with
      ppsCount := s.seq.ppsCount + 1
      startDue := if n ≤ s.seq.ppsCount + 1 then some p else none } } := by
  unfold countPulse
  rw [armed, source, waits]

theorem countPulse_unarmed (free : s.seq.st ≠ .armed) : countPulse p s = s := by
  unfold countPulse
  split
  case h_1 armed _ _ => exact absurd armed free
  case h_2 => rfl

theorem countPulse_passes (passes : s.seq.startDue ≠ none ∨ ∀ n, s.seq.source ≠ some (.pps n)) :
    countPulse p s = s := by
  unfold countPulse
  split
  case h_1 source due => exact (passes.elim (absurd due) fun other => absurd source (other _))
  case h_2 => rfl

/-- A valid pulse does nothing to a sequencer that neither runs with a transition pending nor waits for it. -/
theorem endWait_idle (idle : s.seq.st = .running → s.seq.pend = none) : endWait p s = s := by
  unfold endWait
  split
  case h_1 running pend => rw [idle running] at pend; cases pend
  case h_2 => rfl

theorem entryAtPulse_idle (idle : s.seq.st = .running → s.seq.pend = none) : entryAtPulse p s = s := by
  unfold entryAtPulse
  split
  case h_1 running pend => rw [idle running] at pend; cases pend
  case h_2 => rfl

theorem handPulse_idle (first : Bool)
    (idle : (countPulse p s).seq.st = .running → (countPulse p s).seq.pend = none) :
    handPulse p first s = countPulse p s := by
  unfold handPulse
  rw [endWait_idle idle]
  dsimp only
  rw [entryAtPulse_idle idle]
  exact ite_self _

theorem awaits_iff (q : Pending) : q.awaits p = true ↔ q.rule.mode = .atPps ∧ q.pulse = none ∧
    isAfter q.request p = true ∧ elapsed q.request p ≤ 1000200 := by
  simp only [Pending.awaits, Bool.and_eq_true, beq_iff_eq, Option.isNone_iff_eq_none, decide_eq_true_eq, and_assoc]

section
variable {q : Pending} (running : s.seq.st = .running) (pend : s.seq.pend = some q)
include running pend

theorem endWait_waits (waits : q.awaits p = true) :
    endWait p s = { s with seq := { s.seq with pend := some { q with pulse := some p } } } := by
  unfold endWait
  rw [running, pend]
  exact if_pos waits

theorem endWait_passes (passes : ¬ q.awaits p = true) : endWait p s = s := by
  unfold endWait
  rw [running, pend]
  exact if_neg passes

theorem entryAtPulse_enters (pulse : q.pulse = some p) (tick : tickAtOrAfter s.clock.anchor p = p)
    (free : entryMayGo s.seq p = true) : entryAtPulse p s = takeEntry q p false false s := by
  unfold entryAtPulse
  rw [running, pend]
  exact if_pos ⟨pulse, tick, free⟩

theorem entryAtPulse_stays (stays : q.pulse ≠ some p ∨ tickAtOrAfter s.clock.anchor p ≠ p ∨
    ¬ entryMayGo s.seq p = true) : entryAtPulse p s = s := by
  unfold entryAtPulse
  rw [running, pend]
  refine if_neg fun ⟨pulse, tick, free⟩ => ?_
  exact stays.elim (absurd pulse) fun other => other.elim (absurd tick) (absurd free)

variable (unarmed : s.seq.st ≠ .armed)
include unarmed

theorem handPulse_passes (first : Bool) (passes : ¬ q.awaits p = true) (other : q.pulse ≠ some p) :
    handPulse p first s = s := by
  unfold handPulse
  rw [countPulse_unarmed unarmed, endWait_passes running pend passes]
  dsimp only
  rw [entryAtPulse_stays running pend (.inl other), ite_self]

/-- The pulse ends the wait, and the entry is not taken before its routing. -/
theorem handPulse_ends {first : Bool} (waits : q.awaits p = true)
    (stays : first = false ∨ tickAtOrAfter s.clock.anchor p ≠ p ∨ ¬ entryMayGo s.seq p = true) :
    handPulse p first s = { s with seq := { s.seq with pend := some { q with pulse := some p } } } := by
  unfold handPulse
  rw [countPulse_unarmed unarmed, endWait_waits running pend waits]
  obtain rfl | later := stays
  · rfl
  · have stay := entryAtPulse_stays (p := p) (q := { q with pulse := some p })
      (s := { s with seq := { s.seq with pend := some { q with pulse := some p } } }) running rfl (.inr later)
    exact (congrArg (fun u => if first then u else _) stay).trans (ite_self _)

/-- The pulse ends the wait, and the entry at its own tick is taken. -/
theorem handPulse_enters {first : Bool} (isFirst : first = true) (waits : q.awaits p = true)
    (tick : tickAtOrAfter s.clock.anchor p = p) (free : entryMayGo s.seq p = true) :
    handPulse p first s = takeEntry { q with pulse := some p } p false false
      { s with seq := { s.seq with pend := some { q with pulse := some p } } } := by
  unfold handPulse
  rw [countPulse_unarmed unarmed, endWait_waits running pend waits]
  exact (if_pos isFirst).trans (entryAtPulse_enters (s := { s with seq := _ }) running rfl rfl tick free)

end
end

/-! ## The commands -/

section
variable {s : State} {t : Time} (first : Bool) (up : s.power = .up)
include up

theorem exec_ppsPulse : exec (.ppsPulse t first) s = .next (ppsPulse (s.advance t).now first (s.advance t)) :=
  congrArg Host.Outcome.next (whenUp_up up)

theorem exec_ppsPulse_glitch {l : Time} (latest : s.tb.latest = some l)
    (early : elapsed l (s.advance t).now < 999800) : exec (.ppsPulse t first) s =
      .next { s.advance t with tb := { s.tb with glitch := true } } := by
  refine (exec_ppsPulse first up).trans (congrArg Host.Outcome.next ?_)
  unfold ppsPulse
  rw [classify_glitch (latest := (s.advance t).tb.latest) latest early]
  rfl

theorem exec_ppsPulse_acquires (acquires : s.tb.latest = none ∨
      ∃ l, s.tb.latest = some l ∧ 1000200 < elapsed l (s.advance t).now) : exec (.ppsPulse t first) s =
    .next (lossOfSync s.tb.sync (capture .acquiring (s.advance t).now (s.advance t))) := by
  refine (exec_ppsPulse first up).trans (congrArg Host.Outcome.next ?_)
  unfold ppsPulse
  obtain never | ⟨l, latest, late⟩ := acquires
  · rw [show (s.advance t).tb.latest = none from never]
    rfl
  · rw [classify_late (latest := (s.advance t).tb.latest) latest late]
    rfl

theorem exec_ppsPulse_valid (valid : ∃ l, s.tb.latest = some l ∧ 999800 ≤ elapsed l (s.advance t).now ∧
      elapsed l (s.advance t).now ≤ 1000200) : exec (.ppsPulse t first) s =
    .next (route { kind := .pps, time := (s.advance t).now, routed := (s.advance t).now }
      (handPulse (s.advance t).now first (capture .locked (s.advance t).now (s.advance t)))) := by
  refine (exec_ppsPulse first up).trans (congrArg Host.Outcome.next ?_)
  obtain ⟨l, latest, early, late⟩ := valid
  unfold ppsPulse
  rw [classify_valid (latest := (s.advance t).tb.latest) latest early late]

end

theorem route_outside {s : State} (e : Event) (outside : s.seq.st.inShot = false) : route e s = s :=
  if_neg (by rw [outside]; decide)

/-- The state at the end of HOLDOVER or ACQUIRING, at `d` (R135). -/
def State.fallen (d : Time) (s : State) : State :=
  ({ s.advance d with tb := { s.tb with latest := none, sync := .noSync } } : State).raise .syncChanged

theorem fallToNoSync_at {s : State} {l d : Time} (hd : d = after l 5000000) :
    fallToNoSync l s = lossOfSync s.tb.sync (s.fallen d) := by
  unfold fallToNoSync
  dsimp only
  rw [← hd]
  rfl

theorem exec_holdoverEntry {s : State} {l d : Time} (up : s.power = .up) (locked : s.tb.sync = .locked)
    (latest : s.tb.latest = some l) (hd : d = after l 1000201) : exec .holdoverEntry s =
      .next (({ s.advance d with tb := { s.tb with sync := .holdover } } : State).raise .syncChanged) :=
  congrArg Host.Outcome.next ((whenUp_up up).trans (holdoverEntry_locked locked latest hd))

theorem exec_syncTimeout {s : State} {l d : Time} (up : s.power = .up) (latest : s.tb.latest = some l)
    (waits : s.tb.sync = .holdover ∨ s.tb.sync = .acquiring) (hd : d = after l 5000000) :
    exec .syncTimeout s = .next (lossOfSync s.tb.sync (s.fallen d)) := by
  refine congrArg Host.Outcome.next ((whenUp_up up).trans ?_)
  have falls : syncTimeout s = fallToNoSync l s := by
    unfold syncTimeout
    obtain holdover | acquiring := waits
    · rw [holdover, latest]
    · rw [acquiring, latest]
  exact falls.trans (fallToNoSync_at hd)

theorem exec_syncTimeout_falls {s : State} {l d : Time} (up : s.power = .up) (latest : s.tb.latest = some l)
    (waits : s.tb.sync = .holdover ∨ s.tb.sync = .acquiring) (hd : d = after l 5000000)
    (free : s.tb.sync = .acquiring ∨ (s.seq.st = .armed → ∀ n, s.seq.source ≠ some (.pps n))) :
    exec .syncTimeout s = .next (s.fallen d) := by
  refine (exec_syncTimeout up latest waits hd).trans (congrArg Host.Outcome.next ?_)
  obtain acquiring | other := free
  · exact lossOfSync_lost (by rw [acquiring]; rfl)
  · exact lossOfSync_passes (s := s.fallen d) other

theorem exec_syncTimeout_cancels {s : State} {l d : Time} {n : Nat} (up : s.power = .up)
    (latest : s.tb.latest = some l) (holdover : s.tb.sync = .holdover) (hd : d = after l 5000000)
    (armed : s.seq.st = .armed) (source : s.seq.source = some (.pps n)) :
    exec .syncTimeout s = .next (((s.fallen d).endArm (.source .noSync)).raise .armCancelled) := by
  refine (exec_syncTimeout up latest (.inl holdover) hd).trans (congrArg Host.Outcome.next ?_)
  rw [lossOfSync_falls (by rw [holdover]; rfl) rfl]
  exact rejectRises_ppsArm (s := s.fallen d) armed source

/-- Settles O50: the class of the pulse, then what the sequencer state makes of a valid one. -/
theorem pulsesMoveTheTimeBase : Obligations.PulsesMoveTheTimeBase := by
  refine ⟨fun s t first up => ?_, fun s l up latest => ?_⟩
  · intro u p pulse runs captured valid
    have capturedAs {sync : Sync} {v : State} (is : captured sync v) : v = capture sync p u := by
      by_cases same : s.tb.sync = sync
      · exact (is.1 same).trans (capture_same sync p u same).symm
      · exact (is.2 same).trans (capture_changed sync p u same).symm
    refine ⟨fun l latest early => exec_ppsPulse_glitch first up latest early,
      fun acquires v is => ?_, fun good v is => ?_⟩
    · obtain rfl := capturedAs is
      have run := exec_ppsPulse_acquires (t := t) first up acquires
      have seq := capture_seq .acquiring p u
      refine ⟨fun free => run.trans (congrArg Host.Outcome.next ?_),
        fun n locked armed source => run.trans (congrArg Host.Outcome.next ?_)⟩
      · obtain never | acquiring | unarmed | ⟨src, source, other⟩ := free
        · exact lossOfSync_lost (by rw [never]; rfl)
        · exact lossOfSync_lost (by rw [acquiring]; rfl)
        · exact lossOfSync_passes fun armed => absurd (seq ▸ armed) unarmed
        · refine lossOfSync_passes fun _ n pps => other n ?_
          exact Option.some.inj (source.symm.trans (seq ▸ pps))
      · have lasts : s.tb.sync.lost = false := by
          obtain yes | yes := locked <;> rw [yes] <;> rfl
        rw [lossOfSync_falls lasts (by rw [capture_sync]; rfl)]
        exact rejectRises_ppsArm (by rw [seq]; exact armed) (by rw [seq]; exact source)
    · obtain rfl := capturedAs is
      have run := exec_ppsPulse_valid (t := t) first up good
      have seq : (capture .locked p u).seq = s.seq := capture_seq .locked p u
      have clock : (capture .locked p u).clock = s.clock := capture_clock .locked p u
      generalize capture .locked p u = v at run seq clock is ⊢
      rw [← seq, ← clock]
      have hands {w x : State} (handed : handPulse p first v = w) (routed : route pulse w = x) : runs x :=
        run.trans (congrArg Host.Outcome.next ((congrArg (route pulse) handed).trans routed))
      have passes (same : countPulse p v = v) (idle : v.seq.st = .running → v.seq.pend = none) :
          handPulse p first v = v := by
        rw [handPulse_idle first (by rwa [same]), same]
      refine ⟨fun editable => ?_, fun n armed source waits => ?_, fun armed other => ?_, fun free => ?_,
        fun q running pend => ?_⟩
      · refine hands (passes (countPulse_unarmed (editable_unarmed editable)) fun running => ?_)
          (route_outside _ (editable_outside editable))
        rw [running] at editable
        cases editable
      · refine hands ((handPulse_idle first ?_).trans (countPulse_counts armed source waits))
          (route_outside _ (by dsimp only; rw [armed]; rfl))
        rw [countPulse_counts armed source waits]
        intro running
        exact absurd (armed.symm.trans running) (by decide)
      · refine hands (passes (countPulse_passes (other.imp_right ?_)) fun running => ?_)
          (route_outside _ (by rw [armed]; rfl))
        · rintro ⟨src, source, others⟩ n pps
          exact others n (Option.some.inj (source.symm.trans pps))
        · exact absurd (armed.symm.trans running) (by decide)
      · refine hands (passes (countPulse_unarmed fun armed => ?_) fun running => ?_) rfl
        · obtain st | st | ⟨st, -⟩ := free <;> exact absurd (armed.symm.trans st) (by decide)
        · obtain st | st | ⟨-, none⟩ := free
          · exact absurd (running.symm.trans st) (by decide)
          · exact absurd (running.symm.trans st) (by decide)
          · exact none
      · intro waits ended
        have awaits : q.awaits p = true ↔ waits := awaits_iff q
        have unarmed : v.seq.st ≠ .armed := fun armed => absurd (armed.symm.trans running) (by decide)
        have mayGo := entryMayGo_iff (q := v.seq) (tick := p)
        refine ⟨fun no other => hands ?_ rfl, ?_⟩
        · exact handPulse_passes running pend unarmed first (awaits.not.2 no) other
        · intro earlier
          refine ⟨fun yes stays => hands ?_ rfl, fun yes isFirst tick free => hands ?_ rfl⟩
          · refine handPulse_ends running pend unarmed (awaits.2 yes) (stays.imp_right (Or.imp_right fun e => ?_))
            exact mayGo.not.2 (not_not.2 e)
          · exact handPulse_enters running pend unarmed isFirst (awaits.2 yes) tick (mayGo.2 free)
  · refine ⟨fun locked => ?_, fun acquiring => ?_, fun holdover other some => ?_, fun n holdover armed source => ?_⟩
    · exact exec_holdoverEntry up locked latest rfl
    · exact exec_syncTimeout_falls up latest (.inr acquiring) rfl (.inl acquiring)
    · exact exec_syncTimeout_falls up latest (.inl holdover) rfl (.inr fun armed n => other n armed)
    · exact exec_syncTimeout_cancels up latest holdover rfl armed source

end Sys2Proof.Machine
end

section
/-! PROOFS. The measurement timers (06): the order of the laps, the examination of the input at a start, and the
starts, stops, edges and time-outs. -/

namespace Sys2Proof.Machine

/-! ## Laps (R105) -/

/-- A lap goes behind the laps whose stop time is earlier or equal, and before the others. -/
theorem insertLap_split (l : Lap) (laps : List Lap) : ∃ before behind,
    laps = before ++ behind ∧ insertLap l laps = before ++ l :: behind ∧
    (∀ y ∈ before, atOrAfter y.stop l.stop = true) ∧
    ∀ y, behind.head? = some y → atOrAfter y.stop l.stop = false := by
  induction laps with
  | nil => exact ⟨[], [], rfl, rfl, by simp, by simp⟩
  | cons x xs ih =>
    by_cases passed : atOrAfter x.stop l.stop = true
    · obtain ⟨before, behind, split, inserted, passes, stays⟩ := ih
      refine ⟨x :: before, behind, by rw [split, List.cons_append], ?_, ?_, stays⟩
      · rw [insertLap, if_pos passed, inserted, List.cons_append]
      · rintro y (_ | ⟨_, hy⟩)
        · exact passed
        · exact passes y hy
    · refine ⟨[], x :: xs, rfl, by rw [insertLap, if_neg passed, List.nil_append], by simp, ?_⟩
      rintro y ⟨⟩
      simpa using passed

theorem lapBetween_stop (first c : Time) : (lapBetween first c).stop = c := by
  unfold lapBetween
  split <;> rfl

theorem lapBetween_after {first c : Time} (later : atOrAfter first c = true) :
    lapBetween first c = { stop := c, value := min (elapsed first c) Config.reportLimit, early := false } :=
  if_pos later

theorem lapBetween_before {first c : Time} (earlier : atOrAfter first c = false) :
    lapBetween first c = { stop := c, value := 0, early := true } :=
  if_neg (by rw [earlier]; decide)

theorem insertLap_length (l : Lap) (laps : List Lap) : (insertLap l laps).length = laps.length + 1 := by
  obtain ⟨before, behind, split, inserted, -⟩ := insertLap_split l laps
  rw [inserted, split]
  simp only [List.length_append, List.length_cons]
  omega

section
variable {x : Timer} (l : Lap)

theorem Timer.record_laps : (x.record l).laps = insertLap l x.laps := by
  unfold Timer.record
  dsimp only
  split <;> rfl

theorem Timer.record_frame : x.record l = { x with
    laps := (x.record l).laps, run := (x.record l).run, due := (x.record l).due } := by
  unfold Timer.record
  dsimp only
  split <;> rfl

theorem Timer.record_full (full : x.cfg.limit ≤ x.laps.length + 1) :
    (x.record l).run = .stopped ∧ (x.record l).due = none := by
  unfold Timer.record
  dsimp only
  rw [insertLap_length, if_pos full]
  exact ⟨rfl, rfl⟩

theorem Timer.record_room (room : x.laps.length + 1 < x.cfg.limit) :
    (x.record l).run = x.run ∧ (x.record l).due = x.due := by
  unfold Timer.record
  dsimp only
  rw [insertLap_length, if_neg (Nat.not_le.2 room)]
  exact ⟨rfl, rfl⟩

end

/-- The timer `v` has recorded the lap from `first` to `c` behind the timer `x` (R105, R107, R110). -/
def Timer.Recorded (x v : Timer) (first c : Time) : Prop :=
  ∃ l : Lap, l.stop = c ∧
    (atOrAfter first c = true → l.value = min (elapsed first c) Config.reportLimit ∧ l.early = false) ∧
    (atOrAfter first c = false → l.value = 0 ∧ l.early = true) ∧
    (∃ before behind, x.laps = before ++ behind ∧ v.laps = before ++ l :: behind ∧
      (∀ y ∈ before, atOrAfter y.stop c = true) ∧
      ∀ y, behind.head? = some y → atOrAfter y.stop c = false) ∧
    (x.cfg.limit ≤ x.laps.length + 1 → v.run = .stopped ∧ v.due = none) ∧
    (x.laps.length + 1 < x.cfg.limit → v.run = .running ∧ v.due = x.due)

theorem record_recorded {x y : Timer} {first c : Time} (run : y.run = .running) (laps : y.laps = x.laps)
    (limit : y.cfg.limit = x.cfg.limit) (due : y.due = x.due) :
    x.Recorded (y.record (lapBetween first c)) first c := by
  obtain ⟨before, behind, split, inserted, passes, stays⟩ := insertLap_split (lapBetween first c) x.laps
  rw [lapBetween_stop] at passes stays
  have recordedLaps : (y.record (lapBetween first c)).laps = insertLap (lapBetween first c) x.laps := by
    rw [Timer.record_laps, laps]
  refine ⟨lapBetween first c, lapBetween_stop .., fun later => ?_, fun earlier => ?_,
    ⟨before, behind, split, recordedLaps.trans inserted, passes, stays⟩, fun full => ?_, fun room => ?_⟩
  · rw [lapBetween_after later]
    exact ⟨rfl, rfl⟩
  · rw [lapBetween_before earlier]
    exact ⟨rfl, rfl⟩
  · exact Timer.record_full _ (by rw [limit, laps]; exact full)
  · rw [← run, ← due]
    exact Timer.record_room _ (by rw [limit, laps]; exact room)

/-! ## The examination of the input at a start (R108, R110) -/

section
variable {m : Timer} {inputs : Bank Input 10} {amps : Bank Nat 10} {start e : Time}

theorem Timer.edgeAtStart_seen {k : InputId} (takes : m.cfg.mode.input = some k)
    (active : (inputs.get k).isActive = true) (last : m.lastActive = some e) (later : atOrAfter start e = true) :
    m.edgeAtStart inputs start = some e := by
  unfold Timer.edgeAtStart
  rw [takes, last]
  exact if_pos (by rw [active, later]; rfl)

theorem Timer.edgeAtStart_unseen (unseen : ∀ k e, m.cfg.mode.input = some k → ¬ ((inputs.get k).isActive = true ∧
    m.lastActive = some e ∧ atOrAfter start e = true)) : m.edgeAtStart inputs start = none := by
  unfold Timer.edgeAtStart
  split
  case h_1 k e takes last =>
    refine if_neg fun both => ?_
    obtain ⟨active, later⟩ := Bool.and_eq_true_iff.1 both
    exact unseen k e takes ⟨active, last, later⟩
  case h_2 => rfl

/-- A running timer with its start time, its amplitudes and its due time (R103). -/
def Timer.started (m : Timer) (amps : Bank Nat 10) (start : Time) : Timer :=
  { m with
    run := .running
    start := some start
    amps := some amps
    due := if m.cfg.timeout = 0 then none else some (after start (m.cfg.timeout * 1000)) }

theorem Timer.begin_eq : m.begin inputs amps start =
    match m.edgeAtStart inputs start, m.cfg.mode with
    | some e, .width _ => { m.started amps start with pulse := some e, count := bump m.count }
    | some _, .count _ => { m.started amps start with count := bump m.count }
    | some _, .interval => m.started amps start
    | none, _ => m.started amps start := rfl

theorem Timer.begin_unseen (unseen : m.edgeAtStart inputs start = none) :
    m.begin inputs amps start = m.started amps start := by
  rw [Timer.begin_eq, unseen]

theorem Timer.begin_width {k : InputId} (mode : m.cfg.mode = .width k)
    (seen : m.edgeAtStart inputs start = some e) :
    m.begin inputs amps start = { m.started amps start with pulse := some e, count := bump m.count } := by
  rw [Timer.begin_eq, seen, mode]

theorem Timer.begin_count {k : InputId} (mode : m.cfg.mode = .count k)
    (seen : m.edgeAtStart inputs start = some e) :
    m.begin inputs amps start = { m.started amps start with count := bump m.count } := by
  rw [Timer.begin_eq, seen, mode]

/-- A start sets the run state, the start time, the amplitudes and the due time, and the input's part. -/
theorem Timer.begin_frame : m.begin inputs amps start = { m.started amps start with
    pulse := (m.begin inputs amps start).pulse, count := (m.begin inputs amps start).count } := by
  rw [Timer.begin_eq]
  split <;> rfl

end

/-! ## Edges (R107, R110) -/

section
variable {m : Timer} {a : Time}

theorem activeEdge_opens {k : InputId} (running : m.run = .running) (mode : m.cfg.mode = .width k)
    (closed : m.pulse = none) :
    m.activeEdge a = { m with lastActive := some a, pulse := some a, count := bump m.count } := by
  unfold Timer.activeEdge
  dsimp only
  rw [running, mode, closed]

theorem activeEdge_counts {k : InputId} (running : m.run = .running) (mode : m.cfg.mode = .count k) :
    m.activeEdge a = { m with lastActive := some a, count := bump m.count } := by
  unfold Timer.activeEdge
  dsimp only
  rw [running, mode]

theorem activeEdge_notes {k : InputId} (notes : m.run ≠ .running ∨ m.cfg.mode = .width k ∧ m.pulse ≠ none) :
    m.activeEdge a = { m with lastActive := some a } := by
  unfold Timer.activeEdge
  dsimp only
  split
  case h_1 running _ =>
    split
    case h_1 closed => exact notes.elim (absurd running) fun opened => absurd closed opened.2
    case h_2 => rfl
  case h_2 running mode =>
    exact notes.elim (absurd running) fun width => absurd (width.1.symm.trans mode) (by simp)
  case h_3 => rfl

end

/-! ## Starts, stops and edges -/

section
variable {s : State} {m : TimerId} {c e : Time}

/-- The timer that an IDLE timer becomes at a start with the time `c`. -/
def State.begunTimer (s : State) (m : TimerId) (c : Time) : Timer := (s.tmr.get m).begin s.inp (liveAmps s) c

theorem begunTimer_due : (s.begunTimer m c).due = if (s.tmr.get m).cfg.timeout = 0 then none
    else some (after c ((s.tmr.get m).cfg.timeout * 1000)) := by
  unfold State.begunTimer
  rw [Timer.begin_frame]
  rfl

theorem begunTimer_frame : s.begunTimer m c = { s.tmr.get m with
    run := .running, start := some c, amps := some (s.syn.chans.map Chan.amp), due := (s.begunTimer m c).due
    pulse := (s.begunTimer m c).pulse, count := (s.begunTimer m c).count } := by
  unfold State.begunTimer
  rw [Timer.begin_frame]
  rfl

/-- At a start with the time `c` the timer sees the input active since its last active edge, `a` (R108, R110). -/
def State.SeesEdge (s : State) (m : TimerId) (c : Time) (k : InputId) (a : Time) : Prop :=
  (s.inp.get k).qual = (s.inp.get k).cfg.activeHigh ∧ (s.tmr.get m).lastActive = some a ∧ atOrAfter c a = true

theorem edgeAtStart_sees {k : InputId} {a : Time} (takes : (s.tmr.get m).cfg.mode.input = some k)
    (sees : s.SeesEdge m c k a) : (s.tmr.get m).edgeAtStart s.inp c = some a :=
  Timer.edgeAtStart_seen takes (beq_iff_eq.2 sees.1) sees.2.1 sees.2.2

theorem begunTimer_width {k : InputId} {a : Time} (mode : (s.tmr.get m).cfg.mode = .width k)
    (sees : s.SeesEdge m c k a) :
    (s.begunTimer m c).count = bump (s.tmr.get m).count ∧ (s.begunTimer m c).pulse = some a := by
  unfold State.begunTimer
  rw [Timer.begin_width mode (edgeAtStart_sees (by rw [mode]; rfl) sees)]
  exact ⟨rfl, rfl⟩

theorem begunTimer_count {k : InputId} {a : Time} (mode : (s.tmr.get m).cfg.mode = .count k)
    (sees : s.SeesEdge m c k a) :
    (s.begunTimer m c).count = bump (s.tmr.get m).count ∧ (s.begunTimer m c).pulse = (s.tmr.get m).pulse := by
  unfold State.begunTimer
  rw [Timer.begin_count mode (edgeAtStart_sees (by rw [mode]; rfl) sees)]
  exact ⟨rfl, rfl⟩

theorem begunTimer_unseen (unseen : ∀ k a, (s.tmr.get m).cfg.mode.input = some k → ¬ s.SeesEdge m c k a) :
    (s.begunTimer m c).count = (s.tmr.get m).count ∧ (s.begunTimer m c).pulse = (s.tmr.get m).pulse := by
  unfold State.begunTimer
  rw [Timer.begin_unseen (Timer.edgeAtStart_unseen fun k a takes sees =>
    unseen k a takes ⟨beq_iff_eq.1 sees.1, sees.2⟩)]
  exact ⟨rfl, rfl⟩

section
variable (enabled : (s.tmr.get m).cfg.enabled = true)
include enabled

theorem startTimer_extra (busy : (s.tmr.get m).run ≠ .idle) : startTimer m c e s =
    ({ s with tmr := s.tmr.set m { s.tmr.get m with extra := bump (s.tmr.get m).extra } }, []) := by
  unfold startTimer
  dsimp only
  rw [enabled]
  refine (if_neg (by decide)).trans ?_
  split
  case h_1 idle => exact absurd idle busy
  all_goals rfl

variable (idle : (s.tmr.get m).run = .idle)
include idle

theorem startTimer_idle : startTimer m c e s =
    match (s.begunTimer m c).due with
    | some d =>
      if atOrAfter d e then
        ({ s with tmr := s.tmr.set m (s.begunTimer m c).expire },
          [{ kind := .timerTimeout m, time := d, routed := e }])
      else ({ s with tmr := s.tmr.set m (s.begunTimer m c) }, [])
    | none => ({ s with tmr := s.tmr.set m (s.begunTimer m c) }, []) := by
  unfold startTimer
  dsimp only
  rw [enabled, idle]
  exact if_neg (by decide)

theorem startTimer_runs (runs : (s.tmr.get m).cfg.timeout = 0 ∨
      atOrAfter (after c ((s.tmr.get m).cfg.timeout * 1000)) e = false) :
    startTimer m c e s = ({ s with tmr := s.tmr.set m (s.begunTimer m c) }, []) := by
  rw [startTimer_idle enabled idle, begunTimer_due]
  by_cases untimed : (s.tmr.get m).cfg.timeout = 0
  · rw [if_pos untimed]
  · rw [if_neg untimed]
    exact if_neg (by rw [runs.resolve_left untimed]; decide)

theorem startTimer_timesOut (timed : (s.tmr.get m).cfg.timeout ≠ 0)
    (out : atOrAfter (after c ((s.tmr.get m).cfg.timeout * 1000)) e = true) : startTimer m c e s =
    ({ s with tmr := s.tmr.set m (s.begunTimer m c).expire },
      [{ kind := .timerTimeout m, time := after c ((s.tmr.get m).cfg.timeout * 1000), routed := e }]) := by
  rw [startTimer_idle enabled idle, begunTimer_due, if_neg timed]
  exact if_pos out

end

theorem stopTimer_late (still : (s.tmr.get m).run ≠ .running) : stopTimer m c e s =
    ({ s with tmr := s.tmr.set m { s.tmr.get m with late := bump (s.tmr.get m).late } }, []) := by
  unfold stopTimer
  dsimp only
  split
  case h_1 running _ => exact absurd running still
  case h_2 running _ => exact absurd running still
  case h_3 running _ => exact absurd running still
  all_goals rfl

theorem stopTimer_width {k : InputId} (running : (s.tmr.get m).run = .running)
    (mode : (s.tmr.get m).cfg.mode = .width k) : stopTimer m c e s =
    ({ s with tmr := s.tmr.set m { s.tmr.get m with run := .stopped, due := none, pulse := none } }, []) := by
  unfold stopTimer
  dsimp only
  rw [running, mode]

theorem stopTimer_laps (running : (s.tmr.get m).run = .running)
    (mode : ∀ k, (s.tmr.get m).cfg.mode ≠ .width k) : stopTimer m c e s =
    ({ s with tmr := s.tmr.set m ((s.tmr.get m).record (lapBetween ((s.tmr.get m).start.getD c) c)) },
      [{ kind := .timerStop m, time := c, routed := e }]) := by
  unfold stopTimer
  dsimp only
  rw [running]
  split
  case h_1 width => exact absurd width (mode _)
  case h_2 => rfl
  case h_3 => rfl
  all_goals contradiction

variable {k : InputId} {a : Time}

theorem timerEdge_passes (edge : Edge) (passes : (s.tmr.get m).cfg.enabled = false ∨
    (s.tmr.get m).cfg.mode.input ≠ some k) : timerEdge m k edge a e s = (s, []) := by
  refine if_pos ?_
  obtain off | other := passes
  · simp [off]
  · simp [other]

section
variable (enabled : (s.tmr.get m).cfg.enabled = true) (takes : (s.tmr.get m).cfg.mode.input = some k)
include enabled takes

theorem timerEdge_active : timerEdge m k .active a e s =
    ({ s with tmr := s.tmr.set m ((s.tmr.get m).activeEdge a) }, []) :=
  if_neg (by simp [enabled, takes])

theorem timerEdge_inactive : timerEdge m k .inactive a e s =
    match (s.tmr.get m).run, (s.tmr.get m).cfg.mode, (s.tmr.get m).pulse with
    | .running, .width _, some opened =>
      ({ s with tmr := s.tmr.set m ({ s.tmr.get m with pulse := none }.record (lapBetween opened a)) },
        [{ kind := .timerStop m, time := a, routed := e }])
    | _, _, _ => (s, []) :=
  if_neg (by simp [enabled, takes])

theorem timerEdge_closes {l : InputId} {o : Time} (running : (s.tmr.get m).run = .running)
    (mode : (s.tmr.get m).cfg.mode = .width l) (opened : (s.tmr.get m).pulse = some o) :
    timerEdge m k .inactive a e s =
      ({ s with tmr := s.tmr.set m ((s.tmr.get m).close.record (lapBetween o a)) },
        [{ kind := .timerStop m, time := a, routed := e }]) := by
  rw [timerEdge_inactive enabled takes, running, mode, opened]
  rfl

end
end

/-- Settles O51: the time-out, the start, the stop and the edge, each by the run state and the mode. -/
theorem timersStartStopAndTimeOut : Obligations.TimersStartStopAndTimeOut := by
  unfold Obligations.TimersStartStopAndTimeOut
  intro recorded
  have records {x y : Timer} {first c : Time} (run : y.run = .running) (laps : y.laps = x.laps)
      (limit : y.cfg.limit = x.cfg.limit) (due : y.due = x.due) :
      recorded x (y.record (lapBetween first c)) first c := record_recorded run laps limit due
  refine ⟨fun s m d up inShot running due => ?_, fun s m c e enabled => ?_, fun s m c e => ?_,
    fun s m k a e => ?_⟩
  · refine congrArg Host.Outcome.next ((whenUp_up up).trans ?_)
    unfold timerTimeout
    rw [inShot, running, due]
    rfl
  · intro x d timesOut seen
    by_cases idle : x.run = .idle
    · let b := s.begunTimer m c
      have frame : b = { x with
          run := .running, start := some c, amps := some (s.syn.chans.map Chan.amp)
          due := b.due, pulse := b.pulse, count := b.count } := begunTimer_frame
      have width (k a) (mode : x.cfg.mode = .width k) (sees : seen k a) :
          b.count = bump x.count ∧ b.pulse = some a := begunTimer_width mode sees
      have count (k a) (mode : x.cfg.mode = .count k) (sees : seen k a) :
          b.count = bump x.count ∧ b.pulse = x.pulse := begunTimer_count mode sees
      have unseen (no : ∀ k a, x.cfg.mode.input = some k → ¬ seen k a) : b.count = x.count ∧ b.pulse = x.pulse :=
        begunTimer_unseen no
      by_cases out : timesOut
      · have run := startTimer_timesOut enabled idle out.1 out.2
        refine ⟨b.expire, congrArg Prod.fst run, fun busy => absurd idle busy, fun _ => ⟨?_,
          fun untimed => absurd untimed out.1, fun _ stays => absurd out stays,
          fun _ => ⟨rfl, rfl, rfl, congrArg Prod.snd run⟩, fun k a mode sees => ⟨(width k a mode sees).1, ?_⟩,
          fun k a mode sees => ⟨(count k a mode sees).1, ?_⟩, fun no => ⟨(unseen no).1, ?_⟩⟩⟩
        · exact (congrArg Timer.expire frame).trans rfl
        all_goals exact absurd out
      · have runs : x.cfg.timeout = 0 ∨ atOrAfter d e = false := by
          by_cases untimed : x.cfg.timeout = 0
          · exact .inl untimed
          · exact .inr (Bool.eq_false_iff.2 fun late => out ⟨untimed, late⟩)
        have run := startTimer_runs enabled idle runs
        have running : b.run = .running := by rw [frame]
        refine ⟨b, congrArg Prod.fst run, fun busy => absurd idle busy, fun _ => ⟨?_, fun untimed => ?_,
          fun timed _ => ⟨running, ?_, congrArg Prod.snd run⟩, fun yes => absurd yes out,
          fun k a mode sees => (width k a mode sees).imp_right fun pulse _ => pulse,
          fun k a mode sees => (count k a mode sees).imp_right fun pulse _ => pulse,
          fun no => (unseen no).imp_right fun pulse _ => pulse⟩⟩
        · rw [running]
          exact frame
        · exact ⟨running, begunTimer_due.trans (if_pos untimed), congrArg Prod.snd run⟩
        · exact begunTimer_due.trans (if_neg timed)
    · have run := startTimer_extra (c := c) (e := e) enabled idle
      exact ⟨_, congrArg Prod.fst run, fun _ => ⟨congrArg Prod.snd run, rfl⟩, fun yes => absurd yes idle⟩
  · intro x
    by_cases running : x.run = .running
    · by_cases wide : ∃ k, x.cfg.mode = .width k
      · obtain ⟨k, mode⟩ := wide
        have run := stopTimer_width (c := c) (e := e) running mode
        exact ⟨_, congrArg Prod.fst run, fun still => absurd running still,
          fun _ _ _ => ⟨congrArg Prod.snd run, rfl⟩, fun _ _ other => absurd mode (other k)⟩
      · have mode (k) : x.cfg.mode ≠ .width k := fun is => wide ⟨k, is⟩
        have run := stopTimer_laps (c := c) (e := e) running mode
        refine ⟨x.record (lapBetween (x.start.getD c) c), congrArg Prod.fst run, fun still => absurd running still,
          fun k _ is => absurd is (mode k), fun t0 _ _ start => ⟨congrArg Prod.snd run, ?_, Timer.record_frame _⟩⟩
        rw [start]
        exact records running rfl rfl rfl
    · have run := stopTimer_late (c := c) (e := e) running
      exact ⟨_, congrArg Prod.fst run, fun _ => ⟨congrArg Prod.snd run, rfl⟩, fun _ yes => absurd yes running,
        fun _ yes => absurd yes running⟩
  · intro x taken
    have edges (enabled : x.cfg.enabled = true) (takes : x.cfg.mode.input = some k) {v : Timer}
        (becomes : x.activeEdge a = v) : taken .active v [] := becomes ▸ timerEdge_active enabled takes
    refine ⟨fun passes edge => timerEdge_passes edge passes, fun enabled takes => ⟨fun running mode closed => ?_,
      fun running mode => ?_, fun other => ?_, fun o running mode opened => ?_, fun other => ?_⟩⟩
    · exact edges enabled takes (activeEdge_opens running mode closed)
    · exact edges enabled takes (activeEdge_counts running mode)
    · exact edges enabled takes (activeEdge_notes other)
    · exact ⟨x.close.record (lapBetween o a), timerEdge_closes enabled takes running mode opened,
        records running rfl rfl rfl, Timer.record_frame _⟩
    · rw [timerEdge_inactive enabled takes]
      split
      case h_1 running mode opened =>
        obtain still | counts | closed := other
        · exact absurd running still
        · exact absurd (counts.symm.trans mode) (by simp)
        · exact absurd (closed.symm.trans opened) (by simp)
      case h_2 => rfl

end Sys2Proof.Machine
end

section
/-! PROOFS. The breakers (07): the interruption groups, the owner and level of an output, the completion of an
operation, and the commands by the breaker state. -/

namespace Sys2Proof.Machine

/-! ## Groups and outputs (R124, R126, R128, R129) -/

theorem inGroup_iff (g : Option Group) (line : Bool) (c : Channel) : inGroup g line c = true ↔
    g = some .groupI ∧ c.val ∈ [4, 5, 6] ∨ g = some .groupJ ∧ c.val ∈ [7, 8, 9] ∨
      line = true ∧ c.val ∈ [0, 1, 2] := by
  obtain ⟨n, ten⟩ := c
  have low : n ≤ 2 ↔ n = 0 ∨ n = 1 ∨ n = 2 := by omega
  have middle : 4 ≤ n ∧ n ≤ 6 ↔ n = 4 ∨ n = 5 ∨ n = 6 := by omega
  have high : 7 ≤ n ↔ n = 7 ∨ n = 8 ∨ n = 9 := by omega
  simp only [inGroup, Bool.or_eq_true, Bool.and_eq_true, decide_eq_true_eq, List.mem_cons,
    List.not_mem_nil, or_false]
  match g with
  | none => simp [low]
  | some .groupI => simp [low, middle]
  | some .groupJ => simp [low, high]

/-- The breaker claims the output for its contact 52a or its contact 52b (R124). -/
def Breaker.claims (b : Breaker) (o : BoutId) : Prop :=
  b.cfg.enabled = true ∧ b.cfg.out52a = some o ∨ b.cfg.enabled = true ∧ b.cfg.out52b = some o

/-- The main contacts are closed (R123). -/
def Breaker.conducts (b : Breaker) : Bool := b.st == .closed || b.st == .opening

section
variable {b : Breaker} {o : BoutId}

theorem drives_52a (enabled : b.cfg.enabled = true) (claims : b.cfg.out52a = some o) :
    b.drives o = some b.conducts :=
  (if_pos enabled).trans (if_pos (beq_iff_eq.2 claims))

theorem drives_52b (enabled : b.cfg.enabled = true) (claims : b.cfg.out52b = some o)
    (other : b.cfg.out52a ≠ some o) :
    b.drives o = some (!b.conducts) :=
  (if_pos enabled).trans ((if_neg (beq_iff_eq.not.2 other)).trans (if_pos (beq_iff_eq.2 claims)))

theorem drives_unclaimed (free : ¬ b.claims o) : b.drives o = none := by
  by_cases enabled : b.cfg.enabled = true
  · refine (if_pos enabled).trans ((if_neg fun a => ?_).trans (if_neg fun b => ?_))
    · exact free (.inl ⟨enabled, beq_iff_eq.1 a⟩)
    · exact free (.inr ⟨enabled, beq_iff_eq.1 b⟩)
  · exact if_neg enabled

theorem drives_claimed (claims : b.claims o) : ∃ level, b.drives o = some level := by
  by_cases main : b.cfg.out52a = some o
  · exact ⟨_, drives_52a (claims.elim And.left And.left) main⟩
  · obtain ⟨-, is⟩ | ⟨enabled, is⟩ := claims
    · exact absurd is main
    · exact ⟨_, drives_52b enabled is main⟩

end

section
variable {s : State} {o : BoutId}

theorem breakerDrive_unclaimed (free : ∀ b, ¬ (s.brk.get b).claims o) : breakerDrive s o = none := by
  unfold breakerDrive
  rw [drives_unclaimed (free 0), drives_unclaimed (free 1)]
  rfl

theorem breakerDrive_claimed {b : BreakerId} (claims : (s.brk.get b).claims o) :
    ∃ level, breakerDrive s o = some level := by
  unfold breakerDrive
  obtain ⟨level, drives⟩ := drives_claimed claims
  match b with
  | 0 => exact ⟨level, by rw [drives]; rfl⟩
  | 1 =>
    cases first : (s.brk.get 0).drives o with
    | none => exact ⟨level, drives⟩
    | some other => exact ⟨other, rfl⟩

theorem breakerDrive_only {b : BreakerId} (only : ∀ b', b' ≠ b → ¬ (s.brk.get b').claims o) :
    breakerDrive s o = (s.brk.get b).drives o := by
  unfold breakerDrive
  match b with
  | 0 => rw [drives_unclaimed (only 1 (by decide)), Option.or_none]
  | 1 => rw [drives_unclaimed (only 0 (by decide)), Option.none_or]

theorem patternNames_iff (q : Sequencer) : patternNames q o = true ↔
    ∃ i r, q.table.get i = some r ∧ r.pattern.get o = true :=
  any_loadedRecords q fun r => r.pattern.get o

theorem outputNow_claimed {b : BreakerId} (claims : (s.brk.get b).claims o) : (outputNow s o).owner = .breaker := by
  obtain ⟨level, drives⟩ := breakerDrive_claimed claims
  unfold outputNow
  rw [drives]

theorem outputNow_driven {level : Bool} (drives : breakerDrive s o = some level) :
    (outputNow s o).closed = level := by
  unfold outputNow
  rw [drives]

section
variable (free : ∀ b, ¬ (s.brk.get b).claims o)
include free

theorem outputNow_named (commit : s.seq.commit = true) (named : patternNames s.seq o = true) :
    outputNow s o = { owner := .sequence, closed := patternCloses s.seq o } := by
  unfold outputNow
  rw [breakerDrive_unclaimed free]
  exact if_pos (by rw [commit, named]; rfl)

theorem outputNow_unnamed (unnamed : ¬ (s.seq.commit = true ∧ patternNames s.seq o = true)) :
    outputNow s o = { owner := .nobody, closed := false } := by
  unfold outputNow
  rw [breakerDrive_unclaimed free]
  exact if_neg (by rwa [Bool.and_eq_true])

end

theorem patternCloses_iff (q : Sequencer) : patternCloses q o = true ↔ (q.st = .running ∨ q.st = .stopping) ∧
    ∃ i, q.inForce = some i ∧ (q.record i).pattern.get o = true := by
  have driving : q.st.driving = true ↔ q.st = .running ∨ q.st = .stopping := by
    cases q.st <;> simp [SeqState.driving]
  unfold patternCloses
  rw [Bool.and_eq_true, driving]
  cases q.inForce <;> simp

end

/-! ## Completions (R118, R121, R122, R125) -/

/-- A breaker with an entry for its operation list, kept or counted as overflow (R125). -/
def Breaker.entered (x : Breaker) (e : OpEntry) : Breaker :=
  { x with ops := appendTo 16 x.ops e, overflow := overflowTo 16 x.ops x.overflow }

theorem entered_room {x : Breaker} (e : OpEntry) (room : x.ops.length < 16) :
    x.entered e = { x with ops := x.ops ++ [e] } := by
  unfold Breaker.entered appendTo overflowTo
  rw [if_pos room, if_pos room]

theorem entered_full {x : Breaker} (e : OpEntry) (full : 16 ≤ x.ops.length) :
    x.entered e = { x with overflow := min (x.overflow + 1) 65535 } := by
  unfold Breaker.entered appendTo overflowTo
  rw [if_neg (Nat.not_lt.2 full), if_neg (Nat.not_lt.2 full), bump]

/-- An operation of the breaker completes with a state, an entry and a change of the channels. -/
def completion (b : BreakerId) (st : BrkState) (e : OpEntry) (change : Chan → Chan) (s : State) : State :=
  onGroup b change (appendOp b e (setBreaker b st none s)).refreshOutputs

section
variable (b : BreakerId) (st : BrkState) (e : OpEntry) (change : Chan → Chan) (s : State)

theorem modify_set {α : Type} {n : Nat} (l : Bank α n) (i : Fin n) (f : α → α) (x : α) :
    (l.modify i f).set i x = l.set i x := Bank.set_set ..

theorem completion_brk : (completion b st e change s).brk =
    s.brk.set b (({ s.brk.get b with st, op := none } : Breaker).entered e) := by
  refine (appendOp_brk b e _).trans ?_
  rw [setBreaker_get, if_pos rfl]
  exact modify_set ..

theorem completion_frame : completion b st e change s = { s with
    brk := (completion b st e change s).brk
    out := (completion b st e change s).out
    syn := (completion b st e change s).syn
    rep := (completion b st e change s).rep } := by
  unfold completion onGroup State.refreshOutputs appendOp
  dsimp only
  rw [State.write_eq]
  split <;> rfl

theorem outputNow_congr {s u : State} (brk : u.brk = s.brk) (seq : u.seq = s.seq) (o : BoutId) :
    outputNow u o = outputNow s o := by
  rw [outputNow_eq, outputNow_eq, brk, seq]

theorem completion_out (o : BoutId) : (completion b st e change s).out.get o =
    outputNow (completion b st e change s) o := by
  refine (Bank.get_ofFn ..).trans (outputNow_congr ?_ ?_ o)
  · rfl
  · rfl

theorem completion_chan (c : Channel) : (completion b st e change s).syn.chans.get c =
    if inGroup (s.brk.get b).cfg.group (s.brk.get b).cfg.line c then change (s.syn.chans.get c)
    else s.syn.chans.get c := by
  refine (Bank.get_mapIdx ..).trans ?_
  have cfg : (((appendOp b e (setBreaker b st none s)).refreshOutputs).brk.get b).cfg = (s.brk.get b).cfg := by
    refine (appendOp_get b b e _).1.trans ?_
    rw [setBreaker_get, if_pos rfl]
  have syn : (appendOp b e (setBreaker b st none s)).syn = s.syn := State.write_syn _ _
  rw [cfg]
  exact congrArg (fun y : Synth => if inGroup (s.brk.get b).cfg.group (s.brk.get b).cfg.line c then
    change (y.chans.get c) else y.chans.get c) syn

/-- The report being filled takes the operation list and its overflow count (R125). -/
theorem appendOp_report (filling : s.rep.cur = .filling) :
    (appendOp b e s).rep.fill.ops.get b = ((appendOp b e s).brk.get b).ops ∧
    (appendOp b e s).rep.fill.opsOver.get b = ((appendOp b e s).brk.get b).overflow := by
  rw [appendOp_brk, Bank.get_set_self]
  have filled {u : State} (cur : u.rep.cur = .filling) (f : Report → Report) :
      (u.write f).rep.fill = f u.rep.fill := by rw [write_filling cur]
  have fill := filled (u := { s with brk := s.brk.set b ((s.brk.get b).entered e) }) filling fun r =>
    { r with
      ops := r.ops.set b (appendTo 16 (s.brk.get b).ops e)
      opsOver := r.opsOver.set b (overflowTo 16 (s.brk.get b).ops (s.brk.get b).overflow) }
  refine ⟨(congrArg (fun r : Report => r.ops.get b) fill).trans (Bank.get_set_self ..),
    (congrArg (fun r : Report => r.opsOver.get b) fill).trans (Bank.get_set_self ..)⟩

end

/-- What a completion with the entry `e` makes of a state (R121, R122, R125). -/
theorem completion_report (b : BreakerId) (st : BrkState) (e : OpEntry) (change : Chan → Chan) {s : State}
    (filling : s.rep.cur = .filling) :
    (completion b st e change s).rep.fill.ops.get b = ((completion b st e change s).brk.get b).ops ∧
    (completion b st e change s).rep.fill.opsOver.get b = ((completion b st e change s).brk.get b).overflow :=
  appendOp_report b e (setBreaker b st none s) filling

section
variable {s : State} {b : BreakerId} {op : Operation} (up : s.power = .up) (inShot : s.seq.st.inShot = true)
  (operates : (s.brk.get b).op = some op)
include up inShot operates

theorem exec_openComplete (opens : op.opens = true) : exec (.breakerOpenComplete b) s =
    .next (route { kind := .breakerOpen b, time := op.due, routed := op.due }
      (completeOpen b op (s.advance op.due))) := by
  refine congrArg Host.Outcome.next ((whenUp_up up).trans ?_)
  unfold openComplete
  rw [inShot, operates]
  exact if_pos opens

theorem exec_closeComplete (closes : op.opens = false) : exec (.breakerCloseComplete b) s =
    .next (route { kind := .breakerClosed b, time := op.due, routed := op.due }
      (completeClose b op (s.advance op.due))) := by
  refine congrArg Host.Outcome.next ((whenUp_up up).trans ?_)
  unfold closeComplete
  rw [inShot, operates]
  exact if_neg (by rw [closes]; decide)

end

theorem conducts_eq (b : Breaker) : b.conducts = match b.st with
    | .closed => true
    | .opening => true
    | .opened => false
    | .closing => false := by
  unfold Breaker.conducts
  cases b.st <;> rfl

/-- Settles O52: the groups, the tables of the outputs, and the two completions. -/
theorem operationsComplete : Obligations.OperationsComplete := by
  refine ⟨inGroup_iff, fun s o => ?_, fun s b op up inShot operates => ?_⟩
  · intro n x has52a has52b claimed named
    have names : s.seq.commit = true ∧ patternNames s.seq o = true ↔ named :=
      and_congr_right fun _ => patternNames_iff s.seq
    have owned (yes : claimed) : n.owner = .breaker := by
      obtain ⟨b, claims⟩ := yes
      exact outputNow_claimed (b := b) claims
    have sequence (no : ¬ claimed) (yes : named) : n = { owner := .sequence, closed := patternCloses s.seq o } :=
      outputNow_named (fun b claims => no ⟨b, claims⟩) (names.2 yes).1 (names.2 yes).2
    have nobody (no : ¬ claimed) (none : ¬ named) : n = { owner := .nobody, closed := false } :=
      outputNow_unnamed (fun b claims => no ⟨b, claims⟩) (names.not.2 none)
    refine ⟨⟨fun owner => ?_, owned⟩, ⟨fun owner => ?_, fun ⟨no, yes⟩ => by rw [sequence no yes]⟩,
      ⟨fun owner => ?_, fun ⟨no, unnamed⟩ => by rw [nobody no unnamed]⟩, fun b only => ⟨fun main other => ?_,
      fun other main => ?_⟩, fun no yes => ?_, fun no none => by rw [nobody no none]⟩
    · by_contra no
      by_cases yes : named
      · rw [sequence no yes] at owner
        cases owner
      · rw [nobody no yes] at owner
        cases owner
    · have no : ¬ claimed := fun yes => by
        rw [owned yes] at owner
        cases owner
      refine ⟨no, by_contra fun none => ?_⟩
      rw [nobody no none] at owner
      cases owner
    · have no : ¬ claimed := fun yes => by
        rw [owned yes] at owner
        cases owner
      refine ⟨no, fun yes => ?_⟩
      rw [sequence no yes] at owner
      cases owner
    · have free (b') (ne : b' ≠ b) : ¬ (s.brk.get b').claims o := not_or.2 (only b' ne)
      exact (outputNow_driven ((breakerDrive_only free).trans (drives_52a main.1 main.2))).trans (conducts_eq _)
    · have free (b') (ne : b' ≠ b) : ¬ (s.brk.get b').claims o := not_or.2 (only b' ne)
      refine (outputNow_driven ((breakerDrive_only free).trans
        (drives_52b other.1 other.2 fun is => main ⟨other.1, is⟩))).trans ?_
      rw [conducts_eq]
      cases (x b).st <;> rfl
    · rw [sequence no yes]
      exact patternCloses_iff s.seq
  · intro x entry completed
    have completes (st : BrkState) (change : Chan → Chan) (e : OpEntry) :
        completed st change e (completion b st e change (s.advance op.due)) := by
      have frame := completion_frame b st e change (s.advance op.due)
      have brk := completion_brk b st e change (s.advance op.due)
      refine ⟨by rw [frame]; rfl, fun room => ?_, fun full => ?_, fun o => completion_out ..,
        fun c => completion_chan ..,
        completion_report (s := s.advance op.due) b st e change, by rw [frame]; rfl, by rw [frame]; rfl,
        by rw [frame]; rfl, by rw [frame]; rfl, by rw [frame]; rfl⟩
      · exact brk.trans (congrArg (s.brk.set b) (entered_room e room))
      · exact brk.trans (congrArg (s.brk.set b) (entered_full e full))
    refine ⟨fun opens => ?_, fun closes => ?_⟩
    · exact ⟨_, _, ⟨rfl, rfl, rfl, rfl, rfl, rfl⟩, completes .opened _ _,
        exec_openComplete up inShot operates opens⟩
    · exact ⟨_, _, ⟨rfl, rfl, rfl, rfl, rfl, rfl⟩, completes .closed _ _,
        exec_closeComplete up inShot operates closes⟩

end Sys2Proof.Machine
end

section
/-! PROOFS. The trip and close commands by the breaker state (07). -/

namespace Sys2Proof.Machine

section
variable {s : State} (b : BreakerId) (t : Time) (cause : CmdCause)

/-- The operation that a command begins with an operating time (R118). -/
def operation (opens : Bool) (t : Time) (cause : CmdCause) (time : Nat) (replaced : Option Time) : Operation :=
  { opens, command := t, cause, due := after t (time * 1000), replaced }

/-- The state in which the breaker has begun an operation (R118). -/
def State.operating (s : State) (b : BreakerId) (op : Operation) : State :=
  ({ s with brk := s.brk.set b { s.brk.get b with
    st := if op.opens then .opening else .closing, op := some op } } : State).refreshOutputs

/-- The entry of a refused command (R119, R120). -/
def State.refusal (s : State) (kind : OpKind) (why : OpRefusal) (t : Time) (cause : CmdCause) : OpEntry :=
  { kind, command := relative s.seq.t0 t, completion := relative s.seq.t0 t, cause, refusal := why,
    replaced := none }

theorem beginOpen_timed (replaced : Option Time) (timed : (s.brk.get b).cfg.openTime ≠ 0) :
    beginOpen b t cause replaced s =
      (s.operating b (operation true t cause (s.brk.get b).cfg.openTime replaced), []) := if_neg timed

theorem beginOpen_instant (replaced : Option Time) (instant : (s.brk.get b).cfg.openTime = 0) :
    beginOpen b t cause replaced s =
      (completeOpen b (operation true t cause (s.brk.get b).cfg.openTime replaced)
        (s.operating b (operation true t cause (s.brk.get b).cfg.openTime replaced)),
        [{ kind := .breakerOpen b, time := t, routed := t }]) := if_pos instant

theorem beginClose_timed (timed : (s.brk.get b).cfg.closeTime ≠ 0) : beginClose b t cause s =
    (s.operating b (operation false t cause (s.brk.get b).cfg.closeTime none), []) := if_neg timed

theorem beginClose_instant (instant : (s.brk.get b).cfg.closeTime = 0) : beginClose b t cause s =
    (completeClose b (operation false t cause (s.brk.get b).cfg.closeTime none)
      (s.operating b (operation false t cause (s.brk.get b).cfg.closeTime none)),
      [{ kind := .breakerClosed b, time := t, routed := t }]) := if_pos instant

theorem tripStands_iff : tripStands s b = true ↔
    ∃ k, (s.brk.get b).cfg.trip = some k ∧ (s.inp.get k).qual = (s.inp.get k).cfg.activeHigh := by
  unfold tripStands
  cases (s.brk.get b).cfg.trip <;> simp [Input.isActive]

section
variable (unready : ¬ (s.seq.st.inShot = true ∧ (s.brk.get b).cfg.enabled = true))
include unready

theorem tripBreaker_unready : tripBreaker b t cause s = (s, []) :=
  if_pos (by rwa [Bool.not_eq_true', ← Bool.not_eq_true, Bool.and_eq_true])

theorem closeBreaker_unready : closeBreaker b t cause s = (s, []) :=
  if_pos (by rwa [Bool.not_eq_true', ← Bool.not_eq_true, Bool.and_eq_true])

end

section
variable (ready : s.seq.st.inShot = true ∧ (s.brk.get b).cfg.enabled = true)
include ready

theorem tripBreaker_ready : tripBreaker b t cause s =
    match (s.brk.get b).st with
    | .closed => beginOpen b t cause none s
    | .closing => beginOpen b t cause ((s.brk.get b).op.map (·.command)) s
    | .opening => (refuseOp b .tripRefused (.state .opening) t cause s, [])
    | .opened => (refuseOp b .tripRefused (.state .opened) t cause s, []) :=
  if_neg (by rw [ready.1, ready.2]; decide)

theorem closeBreaker_ready : closeBreaker b t cause s =
    match (s.brk.get b).st with
    | .opened =>
      if tripStands s b then (refuseOp b .closeRefused .tripFree t cause s, [])
      else beginClose b t cause s
    | .closed => (refuseOp b .closeRefused (.state .closed) t cause s, [])
    | .opening => (refuseOp b .closeRefused (.state .opening) t cause s, [])
    | .closing => (refuseOp b .closeRefused (.state .closing) t cause s, []) :=
  if_neg (by rw [ready.1, ready.2]; decide)

end
end

/-- Settles O53: the two commands in each of the four breaker states. -/
theorem commandsMoveTheBreaker : Obligations.CommandsMoveTheBreaker := by
  intro s b t cause x ready refused begun trip close stands
  have refuses {r : State × List Event} {kind : OpKind} {why : OpRefusal}
      (is : r = (refuseOp b kind why t cause s, [])) : refused r kind why := by
    subst is
    refine ⟨rfl, fun room => ⟨s.refusal kind why t cause, rfl, rfl, rfl, rfl, rfl, rfl, ?_⟩, fun full => ?_,
      State.write_syn .., State.write_out ..⟩
    · exact (appendOp_brk ..).trans (congrArg (s.brk.set b) (entered_room _ room))
    · exact (appendOp_brk ..).trans (congrArg (s.brk.set b) (entered_full _ full))
  have trips {replaced : Option Time} (is : trip = beginOpen b t cause replaced s) :
      begun trip true x.cfg.openTime replaced :=
    ⟨fun timed => is.trans (beginOpen_timed b t cause replaced timed),
      fun instant _ => is.trans (beginOpen_instant b t cause replaced instant), fun _ => nofun⟩
  have closes (is : close = beginClose b t cause s) : begun close false x.cfg.closeTime none :=
    ⟨fun timed => is.trans (beginClose_timed b t cause timed), fun _ => nofun,
      fun instant _ => is.trans (beginClose_instant b t cause instant)⟩
  have stand : tripStands s b = true ↔ stands := tripStands_iff b
  refine ⟨fun unready => ⟨tripBreaker_unready b t cause unready, closeBreaker_unready b t cause unready⟩,
    fun may st => ?_, fun may st => ?_, fun may st => ?_, fun may st => ?_⟩
  all_goals
    have tripped : trip = _ := tripBreaker_ready b t cause may
    have closed : close = _ := closeBreaker_ready b t cause may
    rw [show (s.brk.get b).st = _ from st] at tripped closed
  · exact ⟨trips tripped, refuses closed⟩
  · exact ⟨trips tripped, refuses closed⟩
  · exact ⟨refuses tripped, refuses closed⟩
  · exact ⟨refuses tripped, fun yes => refuses (closed.trans (if_pos (stand.2 yes))),
      fun no => closes (closed.trans (if_neg (stand.not.2 no)))⟩

end Sys2Proof.Machine
end

section
/-! PROOFS. The trigger table (05): the matches of an event in index order, the firing of an entry, the depths of
a chain, and the marks. -/

namespace Sys2Proof.Machine

/-! ## Lists of a report -/

/-- A firing in the trigger log (R90). -/
theorem logFiring_eq (i : TrigIdx) (e : Event) (superseded : Bool) (s : State) : logFiring i e superseded s =
    s.write fun r =>
      let k : LogEntry := { entry := i, time := relative s.seq.t0 e.time, superseded }
      if r.log.length < 64 then { r with log := r.log ++ [k] }
      else { r with logOver := min (r.logOver + 1) 65535 } := by
  unfold logFiring
  refine congrArg (State.write s) (funext fun r => ?_)
  dsimp only
  by_cases room : r.log.length < 64
  · rw [if_pos room, appendTo, overflowTo, if_pos room, if_pos room]
  · rw [if_neg room, appendTo, overflowTo, if_neg room, if_neg room, bump]

/-- The entry that a MARK writes (R95). -/
def State.markOf (s : State) (e : Event) : Mark :=
  { time := relative s.seq.t0 e.routed
    state := ((stateFor s.seq e.kind).orElse fun _ => s.seq.inForce).getD 0
    step := s.seq.rampSteps
    live := markValue s }

/-- A MARK in the list of the report (R95). -/
theorem takeMark_eq (e : Event) (s : State) : takeMark e s = s.write fun r =>
    if r.marks.length < 16 then { r with marks := r.marks ++ [s.markOf e] }
    else { r with marksOver := min (r.marksOver + 1) 65535 } := by
  unfold takeMark
  refine congrArg (State.write s) (funext fun r => ?_)
  by_cases room : r.marks.length < 16
  · rw [if_pos room, appendTo, overflowTo, if_pos room, if_pos room]
    rfl
  · rw [if_neg room, appendTo, overflowTo, if_neg room, if_neg room, bump]

/-! ## What a mark records (R30, R95) -/

theorem firstChannel_eq {p : Ramp} {c : Channel} (named : p.chans.get c = true)
    (first : ∀ b < c, p.chans.get b = false) : p.firstChannel = some c := by
  refine List.find?_eq_some_iff_getElem.2 ⟨named, c.val, by simp, by simp, fun j below => ?_⟩
  rw [List.getElem_finRange]
  exact Bool.not_eq_true' _ ▸ first _ below

section
variable {s : State} {e : Event} {i : StateIdx} (inForce : s.seq.inForce = some i)
include inForce

theorem markOf_live_none (flat : (s.seq.record i).ramp = none) : (s.markOf e).live = none := by
  change markValue s = none
  unfold markValue Sequencer.ramp
  rw [inForce, Option.bind_some, flat]
  rfl

theorem markOf_live {p : Ramp} {c : Channel} (ramp : (s.seq.record i).ramp = some p) (named : p.chans.get c = true)
    (first : ∀ b < c, p.chans.get b = false) :
    (s.markOf e).live = some ((s.syn.chans.get c).quantity p.quantity) := by
  change markValue s = _
  unfold markValue Sequencer.ramp
  rw [inForce, Option.bind_some, ramp, Option.bind_some, firstChannel_eq named first]
  rfl

theorem markOf_state : (s.markOf e).state = (stateFor s.seq e.kind).getD i := by
  unfold State.markOf
  rw [inForce]
  cases stateFor s.seq e.kind <;> rfl

end

theorem stateFor_other {k : EventKind} (q : Sequencer) (other : ∀ j, k ≠ .stateExit j ∧ k ≠ .stateEnter j) :
    stateFor q k = q.inForce := by
  unfold stateFor
  split
  case h_1 j => exact absurd rfl (other j).1
  case h_2 j => exact absurd rfl (other j).2
  case h_3 => rfl

/-! ## The depths of a chain (R96, R97) -/

/-- An event is routed behind the events of its depth that have been: the state and the events chained so far. -/
def routeNext (r : State × List Event) (e : Event) : State × List Event :=
  ((routeOne e r.1).1, r.2 ++ (routeOne e r.1).2)

theorem foldl_routeNext (es : List Event) (s : State) (chained : List Event) :
    es.foldl routeNext (s, chained) = ((routeLevel es s).1, chained ++ (routeLevel es s).2) := by
  induction es generalizing s chained with
  | nil => rw [List.foldl_nil, routeLevel, List.append_nil]
  | cons e es ih => rw [List.foldl_cons, routeNext, ih, routeLevel, List.append_assoc]

theorem routeDepths_nil (n : Nat) (s : State) : routeDepths n [] s = s := by
  cases n <;> rfl

theorem routeDepths_succ {es : List Event} (some : es ≠ []) (n : Nat) (s : State) :
    routeDepths (n + 1) es s = routeDepths n (es.foldl routeNext (s, [])).2 (es.foldl routeNext (s, [])).1 := by
  rw [foldl_routeNext, List.nil_append]
  cases es with
  | nil => exact absurd rfl some
  | cons e es => rw [routeDepths]

theorem routeDepths_zero {es : List Event} (some : es ≠ []) (s : State) : routeDepths 0 es s =
    s.write fun r => { r with flags := { r.flags with chainLimit := true } } := by
  cases es with
  | nil => exact absurd rfl some
  | cons e es => rw [routeDepths, State.flag]

/-! ## What a firing leaves -/

/-- `u` has the entries and the state in force of `s`, which decide what an event matches (R88). -/
structure SameMatches (s u : State) : Prop where
  trg : u.trg = s.trg
  inForce : u.seq.inForce = s.seq.inForce

namespace SameMatches
variable (s : State)

theorem refl : SameMatches s s := ⟨rfl, rfl⟩

theorem trans {s u v : State} (h : SameMatches s u) (g : SameMatches u v) : SameMatches s v :=
  ⟨g.trg.trans h.trg, g.inForce.trans h.inForce⟩

theorem behind {s u v : State} (g : SameMatches u v) (trg : u.trg = s.trg)
    (inForce : u.seq.inForce = s.seq.inForce) :
    SameMatches s v := trans ⟨trg, inForce⟩ g

theorem write (f : Report → Report) : SameMatches s (s.write f) :=
  ⟨State.write_trg .., congrArg Sequencer.inForce (State.write_seq ..)⟩

theorem softStop (r : EndReason) (t : Time) : SameMatches s (s.softStop r t) := by
  rw [State.softStop_eq]
  exact (write _ _).behind rfl rfl

theorem startTimer (m : TimerId) (c e : Time) : SameMatches s (startTimer m c e s).1 := by
  unfold Machine.startTimer
  dsimp only
  repeat' split
  all_goals exact ⟨rfl, rfl⟩

theorem stopTimer (m : TimerId) (c e : Time) : SameMatches s (stopTimer m c e s).1 := by
  unfold Machine.stopTimer
  dsimp only
  split <;> exact ⟨rfl, rfl⟩

theorem appendOp (b : BreakerId) (e : OpEntry) : SameMatches s (appendOp b e s) :=
  ⟨State.write_trg .., congrArg Sequencer.inForce (appendOp_seq ..)⟩

theorem completion (b : BreakerId) (st : BrkState) (e : OpEntry) (change : Chan → Chan) :
    SameMatches s (completion b st e change s) := by
  rw [completion_frame]
  exact ⟨rfl, rfl⟩

theorem completeOpen (b : BreakerId) (op : Operation) : SameMatches s (completeOpen b op s) :=
  completion s b .opened _ _

theorem completeClose (b : BreakerId) (op : Operation) : SameMatches s (completeClose b op s) :=
  completion s b .closed _ _

theorem beginOpen (b : BreakerId) (t : Time) (cause : CmdCause) (replaced : Option Time) :
    SameMatches s (beginOpen b t cause replaced s).1 := by
  unfold Machine.beginOpen
  dsimp only
  split
  · exact (completeOpen _ b _).behind rfl rfl
  · exact ⟨rfl, rfl⟩

theorem beginClose (b : BreakerId) (t : Time) (cause : CmdCause) :
    SameMatches s (beginClose b t cause s).1 := by
  unfold Machine.beginClose
  dsimp only
  split
  · exact (completeClose _ b _).behind rfl rfl
  · exact ⟨rfl, rfl⟩

theorem tripBreaker (b : BreakerId) (t : Time) (cause : CmdCause) : SameMatches s (tripBreaker b t cause s).1 := by
  obtain same | ⟨-, -, ⟨r, is⟩ | ⟨e, is⟩⟩ := tripBreaker_cases b t cause s
  · rw [same]
    exact refl s
  · rw [is]
    exact beginOpen ..
  · rw [is]
    exact appendOp ..

theorem closeBreaker (b : BreakerId) (t : Time) (cause : CmdCause) :
    SameMatches s (closeBreaker b t cause s).1 := by
  obtain same | ⟨-, -, is | ⟨e, is⟩⟩ := closeBreaker_cases b t cause s
  · rw [same]
    exact refl s
  · rw [is]
    exact beginClose ..
  · rw [is]
    exact appendOp ..

theorem takeMark (e : Event) : SameMatches s (takeMark e s) := by
  rw [takeMark_eq]
  exact write ..

theorem logFiring (i : TrigIdx) (e : Event) (superseded : Bool) : SameMatches s (logFiring i e superseded s) := by
  rw [logFiring_eq]
  exact write ..

theorem fireAction (i : TrigIdx) (a : Action) (e : Event) (offered : Bool) :
    SameMatches s (fireAction i a e offered s).state := by
  cases a with
  | goto target =>
    simp only [Machine.fireAction, fireGoto]
    repeat' split
    all_goals exact ⟨rfl, rfl⟩
  | endShot =>
    simp only [Machine.fireAction, fireEndShot]
    repeat' split
    · exact refl s
    · exact softStop ..
    · exact refl s
  | startTimer m => exact startTimer ..
  | stopTimer m => exact stopTimer ..
  | trip b => exact tripBreaker ..
  | close b => exact closeBreaker ..
  | mark => exact takeMark ..

end SameMatches

/-! ## The actions that go to the sequencer (R25, R32, R92) -/

section
variable {s : State} {e : Event} {offered : Bool} (i : TrigIdx)

theorem fireGoto_takes (target : StateIdx)
    (free : offered = false ∧ s.seq.st = .running ∧ s.seq.pend = none) : fireGoto i target e offered s =
      { state := s.request target (.trigger i) e.routed, superseded := false, offered := true, chained := [] } := by
  obtain ⟨rfl, running, pend⟩ := free
  unfold fireGoto
  rw [running, pend]
  rfl

theorem fireGoto_superseded (target : StateIdx)
    (taken : ¬ (offered = false ∧ s.seq.st = .running ∧ s.seq.pend = none)) : fireGoto i target e offered s =
      { state := s, superseded := true, offered := true, chained := [] } := by
  unfold fireGoto
  split
  · rfl
  case isFalse fresh =>
    split
    case h_1 running pend => exact absurd ⟨Bool.eq_false_iff.2 fresh, running, pend⟩ taken
    case h_2 => rfl

theorem fireEndShot_takes (free : offered = false ∧ s.seq.st = .running) : fireEndShot e offered s =
    { state := s.softStop .endShot e.routed, superseded := false, offered := true, chained := [] } := by
  obtain ⟨rfl, running⟩ := free
  unfold fireEndShot
  rw [running]
  rfl

theorem fireEndShot_superseded (taken : ¬ (offered = false ∧ s.seq.st = .running)) : fireEndShot e offered s =
    { state := s, superseded := true, offered := true, chained := [] } := by
  unfold fireEndShot
  split
  · rfl
  case isFalse fresh =>
    split
    case h_1 running => exact absurd ⟨Bool.eq_false_iff.2 fresh, running⟩ taken
    case h_2 => rfl

end

/-! ## The examination of the entries (R88 to R92) -/

theorem stateFor_congr {q r : Sequencer} (same : r.inForce = q.inForce) (k : EventKind) :
    stateFor r k = stateFor q k := by
  unfold stateFor
  split
  case h_1 => rfl
  case h_2 => rfl
  case h_3 => exact same

theorem accepts_congr (t : TrigEntry) {q r : Sequencer} (same : r.inForce = q.inForce) (e : Event) :
    t.accepts r e = t.accepts q e := by
  unfold TrigEntry.accepts
  rw [stateFor_congr same]

theorem accepts_iff (t : TrigEntry) (q : Sequencer) (e : Event) : t.accepts q e = true ↔
    t.enabled = true ∧ t.event = e.kind ∧ ∀ f, t.filter = some f → stateFor q e.kind = some f := by
  unfold TrigEntry.accepts
  rw [Bool.and_eq_true, Bool.and_eq_true, beq_iff_eq, and_assoc]
  cases t.filter <;> simp

/-- The place holds an entry that the event matches (R88). -/
def State.matchesAt (s : State) (e : Event) (i : TrigIdx) : Bool :=
  match (s.trg.get i).entry with
  | some t => t.accepts s.seq e
  | none => false

theorem matchesAt_iff (s : State) (e : Event) (i : TrigIdx) : s.matchesAt e i = true ↔
    ∃ t, (s.trg.get i).entry = some t ∧ t.enabled = true ∧ t.event = e.kind ∧
      ∀ f, t.filter = some f → stateFor s.seq e.kind = some f := by
  unfold State.matchesAt
  cases (s.trg.get i).entry with
  | none => simp
  | some t => simp [accepts_iff]

/-- A matching entry fires: its action is carried out, and the firing is logged (R90). -/
def Routing.fire (i : TrigIdx) (a : Action) (e : Event) (r : Routing) : Routing :=
  let f := fireAction i a e r.offered r.state
  { state := logFiring i e f.superseded f.state, offered := f.offered, chained := r.chained ++ f.chained }

/-- An examination under way as a triple. -/
def Routing.parts (r : Routing) : State × Bool × List Event := (r.state, r.offered, r.chained)

/-- A matching entry is examined, its place as it stood when the event was raised (R89). -/
def Routing.take (s : State) (e : Event) (r : Routing) (i : TrigIdx) : Routing :=
  match (s.trg.get i).entry with
  | none => r
  | some t =>
    let n := bump (s.trg.get i).count
    let r' := { r with state := { r.state with trg := r.state.trg.set i { entry := some t, count := n } } }
    if t.occurrence = 0 ∨ t.occurrence = n then r'.fire i t.action e else r'

section
variable {s : State} {e : Event} {r : Routing} {i : TrigIdx}

theorem examine_eq (slot : r.state.trg.get i = s.trg.get i) (inForce : r.state.seq.inForce = s.seq.inForce) :
    examine e r i = if s.matchesAt e i then r.take s e i else r := by
  unfold examine State.matchesAt Routing.take
  dsimp only
  rw [slot]
  cases entry : (s.trg.get i).entry with
  | none => rfl
  | some t =>
    dsimp only
    rw [accepts_congr t inForce]
    rfl

/-- What an examined entry leaves of the matches: the other places and the state in force. -/
theorem take_keeps : (∀ j, j ≠ i → (r.take s e i).state.trg.get j = r.state.trg.get j) ∧
    (r.take s e i).state.seq.inForce = r.state.seq.inForce := by
  unfold Routing.take
  split
  case h_1 => exact ⟨fun _ _ => rfl, rfl⟩
  case h_2 t entry =>
    dsimp only
    split
    · have fired (v : State) : SameMatches v (logFiring i e (fireAction i t.action e r.offered v).superseded
          (fireAction i t.action e r.offered v).state) :=
        (SameMatches.fireAction v i t.action e r.offered).trans (SameMatches.logFiring _ i e _)
      refine ⟨fun j ne => ?_, (fired _).inForce⟩
      exact (congrArg (Bank.get · j) (fired _).trg).trans (Bank.get_set_ne _ _ (Ne.symm ne))
    · exact ⟨fun j ne => Bank.get_set_ne _ _ (Ne.symm ne), rfl⟩

/-- The entries that match are taken in their order, each as it stood when the event was raised. -/
theorem foldl_examine (l : List TrigIdx) (distinct : l.Nodup)
    (slots : ∀ i ∈ l, r.state.trg.get i = s.trg.get i) (inForce : r.state.seq.inForce = s.seq.inForce) :
    l.foldl (examine e) r = (l.filter (s.matchesAt e)).foldl (Routing.take s e) r := by
  induction l generalizing r with
  | nil => rfl
  | cons i l ih =>
    obtain ⟨fresh, distinct⟩ := List.nodup_cons.1 distinct
    have here := slots i (List.mem_cons_self ..)
    have later (j) (hj : j ∈ l) := slots j (List.mem_cons_of_mem _ hj)
    rw [List.foldl_cons, examine_eq here inForce, List.filter_cons]
    split
    · obtain ⟨others, force⟩ := take_keeps (s := s) (e := e) (r := r) (i := i)
      exact ih distinct (fun j hj => (others j fun same => fresh (same ▸ hj)).trans (later j hj))
        (force.trans inForce)
    · exact ih distinct later inForce

theorem routeOne_eq (e : Event) {matching : List TrigIdx} (sorted : matching.Pairwise (· < ·))
    (mem : ∀ i, i ∈ matching ↔ s.matchesAt e i = true) :
    let r := matching.foldl (Routing.take s e) { state := s, offered := false, chained := [] }
    routeOne e s = (r.state, r.chained) := by
  intro r
  have inOrder : (List.finRange 32).filter (s.matchesAt e) = matching := by
    refine List.Perm.eq_of_pairwise (le := (· < ·)) (fun a b _ _ lt gt => absurd lt (lt_asymm gt))
      ((List.pairwise_lt_finRange 32).filter _) sorted ?_
    refine (List.perm_ext_iff_of_nodup ((List.nodup_finRange 32).filter _) (sorted.imp fun lt => ne_of_lt lt)).2 ?_
    intro i
    rw [List.mem_filter, mem]
    simp
  have folded := foldl_examine (s := s) (e := e) (r := { state := s, offered := false, chained := [] })
    (List.finRange 32) (List.nodup_finRange 32) (fun _ _ => rfl) rfl
  rw [inOrder] at folded
  exact congrArg (fun r : Routing => (r.state, r.chained)) folded

end

/-- Settles O54: the chain by its depths, one event by its matches, and the marks. -/
theorem eventsFireTheirEntries : Obligations.EventsFireTheirEntries := by
  refine ⟨fun s e outside => route_outside e outside, fun s e inShot => if_pos inShot, fun n es s some => ?_,
    fun s e matching sorted => ?_, fun s e i inForce => ?_⟩
  · exact ⟨routeDepths_succ some n s, routeDepths_nil n s, routeDepths_zero some s⟩
  · intro forEvent mem logged acts examined result
    have forState (f : StateIdx) : stateFor s.seq e.kind = some f ↔ forEvent f := by
      cases kind : e.kind <;> simp [stateFor, forEvent, kind, eq_comm]
    have matched (i : TrigIdx) : i ∈ matching ↔ s.matchesAt e i = true := by
      rw [mem, matchesAt_iff]
      simp only [forState]
    have logs (i : TrigIdx) (superseded : Bool) (v : State) : logged i superseded v = logFiring i e superseded v :=
      (logFiring_eq i e superseded v).symm
    have fires (i : TrigIdx) (a : Action) (offered : Bool) (v : State) : acts i a offered v =
        (logFiring i e (fireAction i a e offered v).superseded (fireAction i a e offered v).state,
          (fireAction i a e offered v).offered, (fireAction i a e offered v).chained) := by
      cases a with
      | goto target =>
        by_cases free : offered = false ∧ v.seq.st = .running ∧ v.seq.pend = none
        · refine (if_pos free).trans ?_
          rw [fireAction, fireGoto_takes i target free, logs]
        · refine (if_neg free).trans ?_
          rw [fireAction, fireGoto_superseded i target free, logs]
      | endShot =>
        by_cases free : offered = false ∧ v.seq.st = .running
        · refine (if_pos free).trans ?_
          rw [fireAction, fireEndShot_takes free, logs]
        · refine (if_neg free).trans ?_
          rw [fireAction, fireEndShot_superseded free, logs]
      | startTimer m => exact congrArg (·, offered, _) (logs ..)
      | stopTimer m => exact congrArg (·, offered, _) (logs ..)
      | trip b => exact congrArg (·, offered, _) (logs ..)
      | close b => exact congrArg (·, offered, _) (logs ..)
      | mark => exact congrArg (·, offered, _) (logs ..)
    have steps (r : Routing) (i : TrigIdx) : examined r.parts i = (r.take s e i).parts := by
      dsimp only [examined, Routing.take]
      cases (s.trg.get i).entry with
      | none => rfl
      | some t =>
        dsimp only
        by_cases fire : t.occurrence = 0 ∨ t.occurrence = bump (s.trg.get i).count
        · rw [if_pos fire]
          refine (if_pos fire).trans ?_
          rw [fires]
          rfl
        · rw [if_neg fire]
          exact if_neg fire
    have folded : result =
        (matching.foldl (Routing.take s e) { state := s, offered := false, chained := [] }).parts :=
      List.foldl_hom (init := { state := s, offered := false, chained := [] }) Routing.parts steps
    exact (routeOne_eq e sorted matched).trans (congrArg (fun x => (x.1, x.2.2)) folded.symm)
  · refine ⟨s.markOf e, takeMark_eq e s, rfl, rfl, fun j is => ?_, fun other => ?_, markOf_live_none inForce,
      fun p c ramp named first => (markOf_live inForce ramp named first).trans ?_⟩
    · rw [markOf_state inForce]
      obtain is | is := is <;> rw [is] <;> rfl
    · rw [markOf_state inForce, stateFor_other s.seq other, inForce]
      rfl
    · rfl

end Sys2Proof.Machine
end
